-- ==== Sys2Proof/Word.lean ====
section
/-! DEFINITION. The word types of the W65C832 and its three operation widths. -/

namespace Sys2Proof

/-- A memory cell, and the external data bus (spec 00_scope.md R4, 20_memory.md R71). -/
abbrev Byte := BitVec 8

/-- The width of S, D and PC, and of an offset inside a bank (R4, R71). -/
abbrev Word16 := BitVec 16

/-- A bank byte and a 16-bit offset (R5, R71). -/
abbrev Long24 := BitVec 24

/-- The width of A, X, Y and the ALU (R4). -/
abbrev Word32 := BitVec 32

/-- The operation widths `mw` and `xw` range over (spec 10_state.md R40). -/
inductive Width where
  | w8
  | w16
  | w32
deriving DecidableEq, Repr

/-- The width in bits. -/
@[reducible] def Width.bits : Width → Nat
  | .w8 => 8
  | .w16 => 16
  | .w32 => 32

/-- `mb` and `xb`: the width in bytes (00_scope.md R6). -/
def Width.bytes : Width → Nat
  | .w8 => 1
  | .w16 => 2
  | .w32 => 4

/-- The pair `mw`, `xw` in force, all a decoder needs of the state (30_encoding.md R102). -/
structure Widths where
  mw : Width
  xw : Width
deriving DecidableEq, Repr

/-- The three operating modes (10_state.md R38). -/
inductive Mode where
  | emu8
  | emu16
  | native
deriving DecidableEq, Repr

/-- The sources of an interrupt sequence other than RES- (60_exceptions.md R341). -/
inductive Interrupt where
  | abort
  | nmi
  | irq
  | brk
  | cop
deriving DecidableEq, Repr

/-- One byte of an interrupt frame (60_exceptions.md R350). -/
inductive FrameItem where
  | bank
  | pcHigh
  | pcLow
  | status
deriving DecidableEq, Repr

end Sys2Proof
end

