-- ==== Sys2Proof/Config.lean ====
section
/-! DEFINITION. The named parameters of the spec (00_scope.md R4, 92_eei_decisions.md), each at its
default, and the free values: constants without a body, so that no proof can use what they are. -/

namespace Sys2Proof.Config

/-- `XFE_OPCODE`: any opcode, or none (30_encoding.md R106, decision D4). -/
def xfeOpcode : Option Byte := some 0x42#8

/-- `ADDR_BITS`: the standard product brings out 24 address bits (20_memory.md R77, D11). -/
def addrBits : Nat := 24

/-- How many byte addresses there are. -/
def addrSpace : Nat := 2 ^ addrBits

/-- `WIDTH_TABLE`, the column `mw` (10_state.md R40, D6). -/
def accWidth (e16 e8 m : Bool) : Width :=
  if e16 && e8 then .w8
  else if m then .w8
  else if e16 then .w16
  else if e8 then .w32
  else .w16

/-- `WIDTH_TABLE`, the column `xw` (10_state.md R40, D6). -/
def indexWidth (e16 e8 x : Bool) : Width :=
  if e16 && e8 then .w8
  else if x then .w8
  else if e16 then .w16
  else .w32

/-- `VECTORS`: the offset in Bank 0 of each vector's low byte (60_exceptions.md R348, D8). -/
def vector : Interrupt → Mode → Word16
  | .cop, .emu8 => 0xFFF4#16
  | .cop, .emu16 => 0xFFE4#16
  | .cop, .native => 0xFFD4#16
  | .brk, .emu8 => 0xFFFE#16
  | .brk, .emu16 => 0xFFE6#16
  | .brk, .native => 0xFFD6#16
  | .abort, .emu8 => 0xFFF8#16
  | .abort, .emu16 => 0xFFE8#16
  | .abort, .native => 0xFFD8#16
  | .nmi, .emu8 => 0xFFFA#16
  | .nmi, .emu16 => 0xFFEA#16
  | .nmi, .native => 0xFFDA#16
  | .irq, .emu8 => 0xFFFE#16
  | .irq, .emu16 => 0xFFEE#16
  | .irq, .native => 0xFFDE#16

/-- The Reset vector, 00FFFC and 00FFFD (60_exceptions.md R348). -/
def resetVector : Word16 := 0xFFFC#16

/-- `NATIVE_FRAME`: the bytes an interrupt pushes in NATIVE, first pushed first
(60_exceptions.md R353, D9). -/
def nativeFrame : List FrameItem := [.bank, .pcHigh, .pcLow, .status]

/-- The bytes an interrupt pushes in each mode, first pushed first (R351, R352, R353). -/
def frame : Mode → List FrameItem
  | .emu8 => [.pcHigh, .pcLow, .status]
  | .emu16 => [.bank, .pcHigh, .pcLow, .status]
  | .native => nativeFrame

/-- The values the parameter `UPPER_BITS` can take (D10). -/
inductive UpperBits where
  | unspecified
  | preserved
  | zeroed
deriving DecidableEq, Repr

/-- `UPPER_BITS`: bits 31 to 16 of A, X, Y after an 8- or 16-bit write of A or a 16-bit write of X
or Y (10_state.md R41, 93 U2). -/
def upperBits : UpperBits := .unspecified

/-- DESIGN CHOICE (log 3), unsafe: what a byte of memory reads as that nothing has written. -/
def unlistedByte (_addr : Nat) : Byte := 0xFF#8

/-- Free: `A[31:16]` after a narrow write (93 U2), by the step's draw index. -/
opaque freeUpperA : Nat → BitVec 16
/-- Free: `X[31:16]` after a 16-bit write (93 U2). -/
opaque freeUpperX : Nat → BitVec 16
/-- Free: `Y[31:16]` after a 16-bit write (93 U2). -/
opaque freeUpperY : Nat → BitVec 16
/-- Free: P.V after a decimal ADC or SBC (42_arith_logic.md R212, 93 U3). -/
opaque freeDecimalV : Nat → Bool
/-- Free: the result of ADC or SBC on an invalid decimal digit (R212, 93 U4). -/
opaque freeDecimalResult : Nat → Word32
/-- Free: P.N after ADC or SBC on an invalid decimal digit (R212, 93 U4). -/
opaque freeDecimalN : Nat → Bool
/-- Free: P.Z after ADC or SBC on an invalid decimal digit (R212, 93 U4). -/
opaque freeDecimalZ : Nat → Bool
/-- Free: P.C after ADC or SBC on an invalid decimal digit (R212, 93 U4). -/
opaque freeDecimalC : Nat → Bool
/-- Free: the pointer of `(d,x)` in the EMU8 anomaly (40_addressing_modes.md R157, 93 U6). -/
opaque freePointer : Nat → Word16
/-- Free: A after RES- (10_state.md R47, 93 U1). -/
opaque freeResetA : Nat → Word32
/-- Free: `X[7:0]` after RES- (R47, U1). -/
opaque freeResetX : Nat → Byte
/-- Free: `Y[7:0]` after RES- (R47, U1). -/
opaque freeResetY : Nat → Byte
/-- Free: `S[7:0]` after RES- (R47, U1). -/
opaque freeResetS : Nat → Byte
/-- Free: N, V, Z, C (bits 3 to 0) after RES- (R47, U1). -/
opaque freeResetNVZC : Nat → BitVec 4

end Sys2Proof.Config
end

