-- ==== Sys2Proof/Syntax.lean ====
section
/-! DEFINITION. The instructions of the W65C832: one constructor of `Instr` for each of the 257 rows of
the opcode table (spec 30_encoding.md R104, R106), and the operand shapes of R101. -/

namespace Sys2Proof

/-- The 93 mnemonics of the opcode table. -/
inductive Mnemonic where
  | adc
  | and
  | asl
  | bcc
  | bcs
  | beq
  | bit
  | bmi
  | bne
  | bpl
  | bra
  | brk
  | brl
  | bvc
  | bvs
  | clc
  | cld
  | cli
  | clv
  | cmp
  | cop
  | cpx
  | cpy
  | dec
  | dex
  | dey
  | eor
  | inc
  | inx
  | iny
  | jml
  | jmp
  | jsl
  | jsr
  | lda
  | ldx
  | ldy
  | lsr
  | mvn
  | mvp
  | nop
  | ora
  | pea
  | pei
  | per
  | pha
  | phb
  | phd
  | phk
  | php
  | phx
  | phy
  | pla
  | plb
  | pld
  | plp
  | plx
  | ply
  | rep
  | rol
  | ror
  | rti
  | rtl
  | rts
  | sbc
  | sec
  | sed
  | sei
  | sep
  | sta
  | stp
  | stx
  | sty
  | stz
  | tax
  | tay
  | tcd
  | tcs
  | tdc
  | trb
  | tsb
  | tsc
  | tsx
  | txa
  | txs
  | txy
  | tya
  | tyx
  | wai
  | wdm
  | xba
  | xce
  | xfe
deriving DecidableEq, Repr

/-- The format symbols (30_encoding.md R101). -/
inductive Format where
  /-- `i` -/
  | implied
  /-- `s` -/
  | stack
  /-- `A` -/
  | acc
  /-- `#` -/
  | imm
  /-- `d` -/
  | dir
  /-- `d,x` -/
  | dirX
  /-- `d,y` -/
  | dirY
  /-- `(d)` -/
  | ind
  /-- `(d,x)` -/
  | indX
  /-- `(d),y` -/
  | indY
  /-- `[d]` -/
  | indLong
  /-- `[d],y` -/
  | indLongY
  /-- `d,s` -/
  | sr
  /-- `(d,s),y` -/
  | srIndY
  /-- `a` -/
  | abs
  /-- `a,x` -/
  | absX
  /-- `a,y` -/
  | absY
  /-- `(a)` -/
  | absInd
  /-- `(a,x)` -/
  | absIndX
  /-- `[a]` -/
  | absIndLong
  /-- `al` -/
  | long
  /-- `al,x` -/
  | longX
  /-- `r` -/
  | rel
  /-- `rl` -/
  | relLong
  /-- `xyc` -/
  | blockMove
deriving DecidableEq, Repr

/-- The addressing modes that name a memory operand by an address (40_addressing_modes.md R133 to R147). -/
inductive AddrMode where
  /-- Absolute `a` (R133). -/
  | abs (a16 : Word16)
  /-- Absolute Indexed with X `a,x` (R137). -/
  | absX (a16 : Word16)
  /-- Absolute Indexed with Y `a,y` (R138). -/
  | absY (a16 : Word16)
  /-- Absolute Long `al` (R139). -/
  | long (a24 : Long24)
  /-- Absolute Long Indexed with X `al,x` (R140). -/
  | longX (a24 : Long24)
  /-- Direct `d` (R134). -/
  | dir (d8 : Byte)
  /-- Direct Indexed with X `d,x` (R135). -/
  | dirX (d8 : Byte)
  /-- Direct Indexed with Y `d,y` (R136). -/
  | dirY (d8 : Byte)
  /-- Direct Indirect `(d)` (R141). -/
  | ind (d8 : Byte)
  /-- Direct Indexed Indirect `(d,x)` (R142). -/
  | indX (d8 : Byte)
  /-- Direct Indirect Indexed `(d),y` (R143). -/
  | indY (d8 : Byte)
  /-- Direct Indirect Long `[d]` (R144). -/
  | indLong (d8 : Byte)
  /-- Direct Indirect Long Indexed `[d],y` (R145). -/
  | indLongY (d8 : Byte)
  /-- Stack Relative `d,s` (R146). -/
  | sr (d8 : Byte)
  /-- Stack Relative Indirect Indexed `(d,s),y` (R147). -/
  | srIndY (d8 : Byte)
deriving DecidableEq, Repr

/-- The operand of an instruction as its bytes hold it (30_encoding.md R101, R103). An immediate is
held zero-extended to 32 bits; `WellFormed` says that it fits its width. -/
inductive Operand where
  /-- Implied `i`: no byte. -/
  | implied
  /-- Stack `s`: no byte. -/
  | stack
  /-- Accumulator `A`: no byte. -/
  | acc
  /-- The signature byte of BRK and COP (R111). -/
  | signature (sig : Byte)
  /-- The ignored byte of WDM (44_stack_status_system.md R326). -/
  | ignored (skip : Byte)
  /-- An immediate of `mb` bytes (R102). -/
  | immA (v : Word32)
  /-- An immediate of `xb` bytes (R102). -/
  | immX (v : Word32)
  /-- The one-byte immediate of REP and SEP. -/
  | imm8 (m8 : Byte)
  /-- A direct, stack relative, absolute or absolute long form. -/
  | addr (m : AddrMode)
  /-- `(a)`. -/
  | absInd (a16 : Word16)
  /-- `(a,x)`. -/
  | absIndX (a16 : Word16)
  /-- `[a]`. -/
  | absIndLong (a16 : Word16)
  /-- `r`. -/
  | rel (r8 : Byte)
  /-- `rl`. -/
  | relLong (r16 : Word16)
  /-- `xyc`: destination bank, then source bank. -/
  | blockMove (dst src : Byte)
deriving DecidableEq, Repr

/-- The instructions, one constructor for each row of the opcode table: first the rows with operand
bytes, then those without, each in the table's order (the runtime gives a constructor with fields a
tag of one byte). `wdm` is the alternative row of opcode 42 (R106). -/
inductive Instr where
  | brk (sig : Byte)
  | oraIndX (d8 : Byte)
  | cop (sig : Byte)
  | oraSr (d8 : Byte)
  | tsbDir (d8 : Byte)
  | oraDir (d8 : Byte)
  | aslDir (d8 : Byte)
  | oraIndLong (d8 : Byte)
  | oraImm (v : Word32)
  | tsbAbs (a16 : Word16)
  | oraAbs (a16 : Word16)
  | aslAbs (a16 : Word16)
  | oraLong (a24 : Long24)
  | bpl (r8 : Byte)
  | oraIndY (d8 : Byte)
  | oraInd (d8 : Byte)
  | oraSrIndY (d8 : Byte)
  | trbDir (d8 : Byte)
  | oraDirX (d8 : Byte)
  | aslDirX (d8 : Byte)
  | oraIndLongY (d8 : Byte)
  | oraAbsY (a16 : Word16)
  | trbAbs (a16 : Word16)
  | oraAbsX (a16 : Word16)
  | aslAbsX (a16 : Word16)
  | oraLongX (a24 : Long24)
  | jsrAbs (a16 : Word16)
  | andIndX (d8 : Byte)
  | jsl (a24 : Long24)
  | andSr (d8 : Byte)
  | bitDir (d8 : Byte)
  | andDir (d8 : Byte)
  | rolDir (d8 : Byte)
  | andIndLong (d8 : Byte)
  | andImm (v : Word32)
  | bitAbs (a16 : Word16)
  | andAbs (a16 : Word16)
  | rolAbs (a16 : Word16)
  | andLong (a24 : Long24)
  | bmi (r8 : Byte)
  | andIndY (d8 : Byte)
  | andInd (d8 : Byte)
  | andSrIndY (d8 : Byte)
  | bitDirX (d8 : Byte)
  | andDirX (d8 : Byte)
  | rolDirX (d8 : Byte)
  | andIndLongY (d8 : Byte)
  | andAbsY (a16 : Word16)
  | bitAbsX (a16 : Word16)
  | andAbsX (a16 : Word16)
  | rolAbsX (a16 : Word16)
  | andLongX (a24 : Long24)
  | eorIndX (d8 : Byte)
  | eorSr (d8 : Byte)
  | mvp (dst : Byte) (src : Byte)
  | eorDir (d8 : Byte)
  | lsrDir (d8 : Byte)
  | eorIndLong (d8 : Byte)
  | eorImm (v : Word32)
  | jmpAbs (a16 : Word16)
  | eorAbs (a16 : Word16)
  | lsrAbs (a16 : Word16)
  | eorLong (a24 : Long24)
  | bvc (r8 : Byte)
  | eorIndY (d8 : Byte)
  | eorInd (d8 : Byte)
  | eorSrIndY (d8 : Byte)
  | mvn (dst : Byte) (src : Byte)
  | eorDirX (d8 : Byte)
  | lsrDirX (d8 : Byte)
  | eorIndLongY (d8 : Byte)
  | eorAbsY (a16 : Word16)
  | jmlLong (a24 : Long24)
  | eorAbsX (a16 : Word16)
  | lsrAbsX (a16 : Word16)
  | eorLongX (a24 : Long24)
  | adcIndX (d8 : Byte)
  | per (r16 : Word16)
  | adcSr (d8 : Byte)
  | stzDir (d8 : Byte)
  | adcDir (d8 : Byte)
  | rorDir (d8 : Byte)
  | adcIndLong (d8 : Byte)
  | adcImm (v : Word32)
  | jmpAbsInd (a16 : Word16)
  | adcAbs (a16 : Word16)
  | rorAbs (a16 : Word16)
  | adcLong (a24 : Long24)
  | bvs (r8 : Byte)
  | adcIndY (d8 : Byte)
  | adcInd (d8 : Byte)
  | adcSrIndY (d8 : Byte)
  | stzDirX (d8 : Byte)
  | adcDirX (d8 : Byte)
  | rorDirX (d8 : Byte)
  | adcIndLongY (d8 : Byte)
  | adcAbsY (a16 : Word16)
  | jmpAbsIndX (a16 : Word16)
  | adcAbsX (a16 : Word16)
  | rorAbsX (a16 : Word16)
  | adcLongX (a24 : Long24)
  | bra (r8 : Byte)
  | staIndX (d8 : Byte)
  | brl (r16 : Word16)
  | staSr (d8 : Byte)
  | styDir (d8 : Byte)
  | staDir (d8 : Byte)
  | stxDir (d8 : Byte)
  | staIndLong (d8 : Byte)
  | bitImm (v : Word32)
  | styAbs (a16 : Word16)
  | staAbs (a16 : Word16)
  | stxAbs (a16 : Word16)
  | staLong (a24 : Long24)
  | bcc (r8 : Byte)
  | staIndY (d8 : Byte)
  | staInd (d8 : Byte)
  | staSrIndY (d8 : Byte)
  | styDirX (d8 : Byte)
  | staDirX (d8 : Byte)
  | stxDirY (d8 : Byte)
  | staIndLongY (d8 : Byte)
  | staAbsY (a16 : Word16)
  | stzAbs (a16 : Word16)
  | staAbsX (a16 : Word16)
  | stzAbsX (a16 : Word16)
  | staLongX (a24 : Long24)
  | ldyImm (v : Word32)
  | ldaIndX (d8 : Byte)
  | ldxImm (v : Word32)
  | ldaSr (d8 : Byte)
  | ldyDir (d8 : Byte)
  | ldaDir (d8 : Byte)
  | ldxDir (d8 : Byte)
  | ldaIndLong (d8 : Byte)
  | ldaImm (v : Word32)
  | ldyAbs (a16 : Word16)
  | ldaAbs (a16 : Word16)
  | ldxAbs (a16 : Word16)
  | ldaLong (a24 : Long24)
  | bcs (r8 : Byte)
  | ldaIndY (d8 : Byte)
  | ldaInd (d8 : Byte)
  | ldaSrIndY (d8 : Byte)
  | ldyDirX (d8 : Byte)
  | ldaDirX (d8 : Byte)
  | ldxDirY (d8 : Byte)
  | ldaIndLongY (d8 : Byte)
  | ldaAbsY (a16 : Word16)
  | ldyAbsX (a16 : Word16)
  | ldaAbsX (a16 : Word16)
  | ldxAbsY (a16 : Word16)
  | ldaLongX (a24 : Long24)
  | cpyImm (v : Word32)
  | cmpIndX (d8 : Byte)
  | rep (m8 : Byte)
  | cmpSr (d8 : Byte)
  | cpyDir (d8 : Byte)
  | cmpDir (d8 : Byte)
  | decDir (d8 : Byte)
  | cmpIndLong (d8 : Byte)
  | cmpImm (v : Word32)
  | cpyAbs (a16 : Word16)
  | cmpAbs (a16 : Word16)
  | decAbs (a16 : Word16)
  | cmpLong (a24 : Long24)
  | bne (r8 : Byte)
  | cmpIndY (d8 : Byte)
  | cmpInd (d8 : Byte)
  | cmpSrIndY (d8 : Byte)
  | pei (d8 : Byte)
  | cmpDirX (d8 : Byte)
  | decDirX (d8 : Byte)
  | cmpIndLongY (d8 : Byte)
  | cmpAbsY (a16 : Word16)
  | jmlAbsIndLong (a16 : Word16)
  | cmpAbsX (a16 : Word16)
  | decAbsX (a16 : Word16)
  | cmpLongX (a24 : Long24)
  | cpxImm (v : Word32)
  | sbcIndX (d8 : Byte)
  | sep (m8 : Byte)
  | sbcSr (d8 : Byte)
  | cpxDir (d8 : Byte)
  | sbcDir (d8 : Byte)
  | incDir (d8 : Byte)
  | sbcIndLong (d8 : Byte)
  | sbcImm (v : Word32)
  | cpxAbs (a16 : Word16)
  | sbcAbs (a16 : Word16)
  | incAbs (a16 : Word16)
  | sbcLong (a24 : Long24)
  | beq (r8 : Byte)
  | sbcIndY (d8 : Byte)
  | sbcInd (d8 : Byte)
  | sbcSrIndY (d8 : Byte)
  | pea (a16 : Word16)
  | sbcDirX (d8 : Byte)
  | incDirX (d8 : Byte)
  | sbcIndLongY (d8 : Byte)
  | sbcAbsY (a16 : Word16)
  | jsrAbsIndX (a16 : Word16)
  | sbcAbsX (a16 : Word16)
  | incAbsX (a16 : Word16)
  | sbcLongX (a24 : Long24)
  | wdm (skip : Byte)
  | php
  | aslAcc
  | phd
  | clc
  | incAcc
  | tcs
  | plp
  | rolAcc
  | pld
  | sec
  | decAcc
  | tsc
  | rti
  | xfe
  | pha
  | lsrAcc
  | phk
  | cli
  | phy
  | tcd
  | rts
  | pla
  | rorAcc
  | rtl
  | sei
  | ply
  | tdc
  | dey
  | txa
  | phb
  | tya
  | txs
  | txy
  | tay
  | tax
  | plb
  | clv
  | tsx
  | tyx
  | iny
  | dex
  | wai
  | cld
  | phx
  | stp
  | inx
  | nop
  | xba
  | sed
  | plx
  | xce
deriving DecidableEq, Repr

end Sys2Proof
end

