-- ==== Sys2Proof/Decode.lean ====
section
/-! DEFINITION. The encoding tables of the spec (30_encoding.md R101 to R112): the opcode, mnemonic and
operand of each instruction, the decoder, total on any bytes, and the encoder. -/

namespace Sys2Proof

/-! ### Operand bytes -/

/-- How many bytes an addressed operand takes (30_encoding.md R101). -/
def AddrMode.size : AddrMode → Nat
  | .abs _ | .absX _ | .absY _ => 2
  | .long _ | .longX _ => 3
  | .dir _ | .dirX _ | .dirY _ | .ind _ | .indX _ | .indY _ | .indLong _ | .indLongY _ => 1
  | .sr _ | .srIndY _ => 1

/-- How many bytes follow the opcode (R101, R102). -/
def Operand.size (w : Widths) : Operand → Nat
  | .implied | .stack | .acc => 0
  | .signature _ | .ignored _ | .imm8 _ | .rel _ => 1
  | .immA _ => w.mw.bytes
  | .immX _ => w.xw.bytes
  | .addr m => m.size
  | .absInd _ | .absIndX _ | .absIndLong _ | .relLong _ | .blockMove _ _ => 2

/-- The `n` low bytes of a value, least significant first (R103). -/
def lowBytes {k : Nat} (v : BitVec k) (n : Nat) : List Byte :=
  (List.range n).map fun i => v.extractLsb' (8 * i) 8

/-- The bytes of an addressed operand (R103). -/
def AddrMode.encode : AddrMode → List Byte
  | .abs a | .absX a | .absY a => lowBytes a 2
  | .long a | .longX a => lowBytes a 3
  | .dir d | .dirX d | .dirY d | .ind d | .indX d | .indY d | .indLong d | .indLongY d => [d]
  | .sr d | .srIndY d => [d]

/-- The bytes that follow the opcode (R101, R103). -/
def Operand.encode (w : Widths) : Operand → List Byte
  | .implied | .stack | .acc => []
  | .signature b | .ignored b | .imm8 b | .rel b => [b]
  | .immA v => lowBytes v w.mw.bytes
  | .immX v => lowBytes v w.xw.bytes
  | .addr m => m.encode
  | .absInd a | .absIndX a | .absIndLong a | .relLong a => lowBytes a 2
  | .blockMove dst src => [dst, src]

/-- The format symbol of an addressed operand (R101). -/
def AddrMode.format : AddrMode → Format
  | .abs _ => .abs
  | .absX _ => .absX
  | .absY _ => .absY
  | .long _ => .long
  | .longX _ => .longX
  | .dir _ => .dir
  | .dirX _ => .dirX
  | .dirY _ => .dirY
  | .ind _ => .ind
  | .indX _ => .indX
  | .indY _ => .indY
  | .indLong _ => .indLong
  | .indLongY _ => .indLongY
  | .sr _ => .sr
  | .srIndY _ => .srIndY

/-- The format symbol of an operand (R101). -/
def Operand.format : Operand → Format
  | .implied | .ignored _ => .implied
  | .stack | .signature _ => .stack
  | .acc => .acc
  | .immA _ | .immX _ | .imm8 _ => .imm
  | .addr m => m.format
  | .absInd _ => .absInd
  | .absIndX _ => .absIndX
  | .absIndLong _ => .absIndLong
  | .rel _ => .rel
  | .relLong _ => .relLong
  | .blockMove _ _ => .blockMove

/-! ### The opcode table -/

/-- The opcode of a row (R104). XFE's is the parameter's, given its default 42 here (R106). -/
def Instr.opcode : Instr → Byte
  | .brk _ => 0x00#8
  | .oraIndX _ => 0x01#8
  | .cop _ => 0x02#8
  | .oraSr _ => 0x03#8
  | .tsbDir _ => 0x04#8
  | .oraDir _ => 0x05#8
  | .aslDir _ => 0x06#8
  | .oraIndLong _ => 0x07#8
  | .php => 0x08#8
  | .oraImm _ => 0x09#8
  | .aslAcc => 0x0A#8
  | .phd => 0x0B#8
  | .tsbAbs _ => 0x0C#8
  | .oraAbs _ => 0x0D#8
  | .aslAbs _ => 0x0E#8
  | .oraLong _ => 0x0F#8
  | .bpl _ => 0x10#8
  | .oraIndY _ => 0x11#8
  | .oraInd _ => 0x12#8
  | .oraSrIndY _ => 0x13#8
  | .trbDir _ => 0x14#8
  | .oraDirX _ => 0x15#8
  | .aslDirX _ => 0x16#8
  | .oraIndLongY _ => 0x17#8
  | .clc => 0x18#8
  | .oraAbsY _ => 0x19#8
  | .incAcc => 0x1A#8
  | .tcs => 0x1B#8
  | .trbAbs _ => 0x1C#8
  | .oraAbsX _ => 0x1D#8
  | .aslAbsX _ => 0x1E#8
  | .oraLongX _ => 0x1F#8
  | .jsrAbs _ => 0x20#8
  | .andIndX _ => 0x21#8
  | .jsl _ => 0x22#8
  | .andSr _ => 0x23#8
  | .bitDir _ => 0x24#8
  | .andDir _ => 0x25#8
  | .rolDir _ => 0x26#8
  | .andIndLong _ => 0x27#8
  | .plp => 0x28#8
  | .andImm _ => 0x29#8
  | .rolAcc => 0x2A#8
  | .pld => 0x2B#8
  | .bitAbs _ => 0x2C#8
  | .andAbs _ => 0x2D#8
  | .rolAbs _ => 0x2E#8
  | .andLong _ => 0x2F#8
  | .bmi _ => 0x30#8
  | .andIndY _ => 0x31#8
  | .andInd _ => 0x32#8
  | .andSrIndY _ => 0x33#8
  | .bitDirX _ => 0x34#8
  | .andDirX _ => 0x35#8
  | .rolDirX _ => 0x36#8
  | .andIndLongY _ => 0x37#8
  | .sec => 0x38#8
  | .andAbsY _ => 0x39#8
  | .decAcc => 0x3A#8
  | .tsc => 0x3B#8
  | .bitAbsX _ => 0x3C#8
  | .andAbsX _ => 0x3D#8
  | .rolAbsX _ => 0x3E#8
  | .andLongX _ => 0x3F#8
  | .rti => 0x40#8
  | .eorIndX _ => 0x41#8
  | .xfe => 0x42#8
  | .eorSr _ => 0x43#8
  | .mvp _ _ => 0x44#8
  | .eorDir _ => 0x45#8
  | .lsrDir _ => 0x46#8
  | .eorIndLong _ => 0x47#8
  | .pha => 0x48#8
  | .eorImm _ => 0x49#8
  | .lsrAcc => 0x4A#8
  | .phk => 0x4B#8
  | .jmpAbs _ => 0x4C#8
  | .eorAbs _ => 0x4D#8
  | .lsrAbs _ => 0x4E#8
  | .eorLong _ => 0x4F#8
  | .bvc _ => 0x50#8
  | .eorIndY _ => 0x51#8
  | .eorInd _ => 0x52#8
  | .eorSrIndY _ => 0x53#8
  | .mvn _ _ => 0x54#8
  | .eorDirX _ => 0x55#8
  | .lsrDirX _ => 0x56#8
  | .eorIndLongY _ => 0x57#8
  | .cli => 0x58#8
  | .eorAbsY _ => 0x59#8
  | .phy => 0x5A#8
  | .tcd => 0x5B#8
  | .jmlLong _ => 0x5C#8
  | .eorAbsX _ => 0x5D#8
  | .lsrAbsX _ => 0x5E#8
  | .eorLongX _ => 0x5F#8
  | .rts => 0x60#8
  | .adcIndX _ => 0x61#8
  | .per _ => 0x62#8
  | .adcSr _ => 0x63#8
  | .stzDir _ => 0x64#8
  | .adcDir _ => 0x65#8
  | .rorDir _ => 0x66#8
  | .adcIndLong _ => 0x67#8
  | .pla => 0x68#8
  | .adcImm _ => 0x69#8
  | .rorAcc => 0x6A#8
  | .rtl => 0x6B#8
  | .jmpAbsInd _ => 0x6C#8
  | .adcAbs _ => 0x6D#8
  | .rorAbs _ => 0x6E#8
  | .adcLong _ => 0x6F#8
  | .bvs _ => 0x70#8
  | .adcIndY _ => 0x71#8
  | .adcInd _ => 0x72#8
  | .adcSrIndY _ => 0x73#8
  | .stzDirX _ => 0x74#8
  | .adcDirX _ => 0x75#8
  | .rorDirX _ => 0x76#8
  | .adcIndLongY _ => 0x77#8
  | .sei => 0x78#8
  | .adcAbsY _ => 0x79#8
  | .ply => 0x7A#8
  | .tdc => 0x7B#8
  | .jmpAbsIndX _ => 0x7C#8
  | .adcAbsX _ => 0x7D#8
  | .rorAbsX _ => 0x7E#8
  | .adcLongX _ => 0x7F#8
  | .bra _ => 0x80#8
  | .staIndX _ => 0x81#8
  | .brl _ => 0x82#8
  | .staSr _ => 0x83#8
  | .styDir _ => 0x84#8
  | .staDir _ => 0x85#8
  | .stxDir _ => 0x86#8
  | .staIndLong _ => 0x87#8
  | .dey => 0x88#8
  | .bitImm _ => 0x89#8
  | .txa => 0x8A#8
  | .phb => 0x8B#8
  | .styAbs _ => 0x8C#8
  | .staAbs _ => 0x8D#8
  | .stxAbs _ => 0x8E#8
  | .staLong _ => 0x8F#8
  | .bcc _ => 0x90#8
  | .staIndY _ => 0x91#8
  | .staInd _ => 0x92#8
  | .staSrIndY _ => 0x93#8
  | .styDirX _ => 0x94#8
  | .staDirX _ => 0x95#8
  | .stxDirY _ => 0x96#8
  | .staIndLongY _ => 0x97#8
  | .tya => 0x98#8
  | .staAbsY _ => 0x99#8
  | .txs => 0x9A#8
  | .txy => 0x9B#8
  | .stzAbs _ => 0x9C#8
  | .staAbsX _ => 0x9D#8
  | .stzAbsX _ => 0x9E#8
  | .staLongX _ => 0x9F#8
  | .ldyImm _ => 0xA0#8
  | .ldaIndX _ => 0xA1#8
  | .ldxImm _ => 0xA2#8
  | .ldaSr _ => 0xA3#8
  | .ldyDir _ => 0xA4#8
  | .ldaDir _ => 0xA5#8
  | .ldxDir _ => 0xA6#8
  | .ldaIndLong _ => 0xA7#8
  | .tay => 0xA8#8
  | .ldaImm _ => 0xA9#8
  | .tax => 0xAA#8
  | .plb => 0xAB#8
  | .ldyAbs _ => 0xAC#8
  | .ldaAbs _ => 0xAD#8
  | .ldxAbs _ => 0xAE#8
  | .ldaLong _ => 0xAF#8
  | .bcs _ => 0xB0#8
  | .ldaIndY _ => 0xB1#8
  | .ldaInd _ => 0xB2#8
  | .ldaSrIndY _ => 0xB3#8
  | .ldyDirX _ => 0xB4#8
  | .ldaDirX _ => 0xB5#8
  | .ldxDirY _ => 0xB6#8
  | .ldaIndLongY _ => 0xB7#8
  | .clv => 0xB8#8
  | .ldaAbsY _ => 0xB9#8
  | .tsx => 0xBA#8
  | .tyx => 0xBB#8
  | .ldyAbsX _ => 0xBC#8
  | .ldaAbsX _ => 0xBD#8
  | .ldxAbsY _ => 0xBE#8
  | .ldaLongX _ => 0xBF#8
  | .cpyImm _ => 0xC0#8
  | .cmpIndX _ => 0xC1#8
  | .rep _ => 0xC2#8
  | .cmpSr _ => 0xC3#8
  | .cpyDir _ => 0xC4#8
  | .cmpDir _ => 0xC5#8
  | .decDir _ => 0xC6#8
  | .cmpIndLong _ => 0xC7#8
  | .iny => 0xC8#8
  | .cmpImm _ => 0xC9#8
  | .dex => 0xCA#8
  | .wai => 0xCB#8
  | .cpyAbs _ => 0xCC#8
  | .cmpAbs _ => 0xCD#8
  | .decAbs _ => 0xCE#8
  | .cmpLong _ => 0xCF#8
  | .bne _ => 0xD0#8
  | .cmpIndY _ => 0xD1#8
  | .cmpInd _ => 0xD2#8
  | .cmpSrIndY _ => 0xD3#8
  | .pei _ => 0xD4#8
  | .cmpDirX _ => 0xD5#8
  | .decDirX _ => 0xD6#8
  | .cmpIndLongY _ => 0xD7#8
  | .cld => 0xD8#8
  | .cmpAbsY _ => 0xD9#8
  | .phx => 0xDA#8
  | .stp => 0xDB#8
  | .jmlAbsIndLong _ => 0xDC#8
  | .cmpAbsX _ => 0xDD#8
  | .decAbsX _ => 0xDE#8
  | .cmpLongX _ => 0xDF#8
  | .cpxImm _ => 0xE0#8
  | .sbcIndX _ => 0xE1#8
  | .sep _ => 0xE2#8
  | .sbcSr _ => 0xE3#8
  | .cpxDir _ => 0xE4#8
  | .sbcDir _ => 0xE5#8
  | .incDir _ => 0xE6#8
  | .sbcIndLong _ => 0xE7#8
  | .inx => 0xE8#8
  | .sbcImm _ => 0xE9#8
  | .nop => 0xEA#8
  | .xba => 0xEB#8
  | .cpxAbs _ => 0xEC#8
  | .sbcAbs _ => 0xED#8
  | .incAbs _ => 0xEE#8
  | .sbcLong _ => 0xEF#8
  | .beq _ => 0xF0#8
  | .sbcIndY _ => 0xF1#8
  | .sbcInd _ => 0xF2#8
  | .sbcSrIndY _ => 0xF3#8
  | .pea _ => 0xF4#8
  | .sbcDirX _ => 0xF5#8
  | .incDirX _ => 0xF6#8
  | .sbcIndLongY _ => 0xF7#8
  | .sed => 0xF8#8
  | .sbcAbsY _ => 0xF9#8
  | .plx => 0xFA#8
  | .xce => 0xFB#8
  | .jsrAbsIndX _ => 0xFC#8
  | .sbcAbsX _ => 0xFD#8
  | .incAbsX _ => 0xFE#8
  | .sbcLongX _ => 0xFF#8
  | .wdm _ => 0x42#8

/-- The mnemonic of a row (R104). -/
def Instr.mnemonic : Instr → Mnemonic
  | .brk _ => .brk
  | .oraIndX _ => .ora
  | .cop _ => .cop
  | .oraSr _ => .ora
  | .tsbDir _ => .tsb
  | .oraDir _ => .ora
  | .aslDir _ => .asl
  | .oraIndLong _ => .ora
  | .php => .php
  | .oraImm _ => .ora
  | .aslAcc => .asl
  | .phd => .phd
  | .tsbAbs _ => .tsb
  | .oraAbs _ => .ora
  | .aslAbs _ => .asl
  | .oraLong _ => .ora
  | .bpl _ => .bpl
  | .oraIndY _ => .ora
  | .oraInd _ => .ora
  | .oraSrIndY _ => .ora
  | .trbDir _ => .trb
  | .oraDirX _ => .ora
  | .aslDirX _ => .asl
  | .oraIndLongY _ => .ora
  | .clc => .clc
  | .oraAbsY _ => .ora
  | .incAcc => .inc
  | .tcs => .tcs
  | .trbAbs _ => .trb
  | .oraAbsX _ => .ora
  | .aslAbsX _ => .asl
  | .oraLongX _ => .ora
  | .jsrAbs _ => .jsr
  | .andIndX _ => .and
  | .jsl _ => .jsl
  | .andSr _ => .and
  | .bitDir _ => .bit
  | .andDir _ => .and
  | .rolDir _ => .rol
  | .andIndLong _ => .and
  | .plp => .plp
  | .andImm _ => .and
  | .rolAcc => .rol
  | .pld => .pld
  | .bitAbs _ => .bit
  | .andAbs _ => .and
  | .rolAbs _ => .rol
  | .andLong _ => .and
  | .bmi _ => .bmi
  | .andIndY _ => .and
  | .andInd _ => .and
  | .andSrIndY _ => .and
  | .bitDirX _ => .bit
  | .andDirX _ => .and
  | .rolDirX _ => .rol
  | .andIndLongY _ => .and
  | .sec => .sec
  | .andAbsY _ => .and
  | .decAcc => .dec
  | .tsc => .tsc
  | .bitAbsX _ => .bit
  | .andAbsX _ => .and
  | .rolAbsX _ => .rol
  | .andLongX _ => .and
  | .rti => .rti
  | .eorIndX _ => .eor
  | .xfe => .xfe
  | .eorSr _ => .eor
  | .mvp _ _ => .mvp
  | .eorDir _ => .eor
  | .lsrDir _ => .lsr
  | .eorIndLong _ => .eor
  | .pha => .pha
  | .eorImm _ => .eor
  | .lsrAcc => .lsr
  | .phk => .phk
  | .jmpAbs _ => .jmp
  | .eorAbs _ => .eor
  | .lsrAbs _ => .lsr
  | .eorLong _ => .eor
  | .bvc _ => .bvc
  | .eorIndY _ => .eor
  | .eorInd _ => .eor
  | .eorSrIndY _ => .eor
  | .mvn _ _ => .mvn
  | .eorDirX _ => .eor
  | .lsrDirX _ => .lsr
  | .eorIndLongY _ => .eor
  | .cli => .cli
  | .eorAbsY _ => .eor
  | .phy => .phy
  | .tcd => .tcd
  | .jmlLong _ => .jml
  | .eorAbsX _ => .eor
  | .lsrAbsX _ => .lsr
  | .eorLongX _ => .eor
  | .rts => .rts
  | .adcIndX _ => .adc
  | .per _ => .per
  | .adcSr _ => .adc
  | .stzDir _ => .stz
  | .adcDir _ => .adc
  | .rorDir _ => .ror
  | .adcIndLong _ => .adc
  | .pla => .pla
  | .adcImm _ => .adc
  | .rorAcc => .ror
  | .rtl => .rtl
  | .jmpAbsInd _ => .jmp
  | .adcAbs _ => .adc
  | .rorAbs _ => .ror
  | .adcLong _ => .adc
  | .bvs _ => .bvs
  | .adcIndY _ => .adc
  | .adcInd _ => .adc
  | .adcSrIndY _ => .adc
  | .stzDirX _ => .stz
  | .adcDirX _ => .adc
  | .rorDirX _ => .ror
  | .adcIndLongY _ => .adc
  | .sei => .sei
  | .adcAbsY _ => .adc
  | .ply => .ply
  | .tdc => .tdc
  | .jmpAbsIndX _ => .jmp
  | .adcAbsX _ => .adc
  | .rorAbsX _ => .ror
  | .adcLongX _ => .adc
  | .bra _ => .bra
  | .staIndX _ => .sta
  | .brl _ => .brl
  | .staSr _ => .sta
  | .styDir _ => .sty
  | .staDir _ => .sta
  | .stxDir _ => .stx
  | .staIndLong _ => .sta
  | .dey => .dey
  | .bitImm _ => .bit
  | .txa => .txa
  | .phb => .phb
  | .styAbs _ => .sty
  | .staAbs _ => .sta
  | .stxAbs _ => .stx
  | .staLong _ => .sta
  | .bcc _ => .bcc
  | .staIndY _ => .sta
  | .staInd _ => .sta
  | .staSrIndY _ => .sta
  | .styDirX _ => .sty
  | .staDirX _ => .sta
  | .stxDirY _ => .stx
  | .staIndLongY _ => .sta
  | .tya => .tya
  | .staAbsY _ => .sta
  | .txs => .txs
  | .txy => .txy
  | .stzAbs _ => .stz
  | .staAbsX _ => .sta
  | .stzAbsX _ => .stz
  | .staLongX _ => .sta
  | .ldyImm _ => .ldy
  | .ldaIndX _ => .lda
  | .ldxImm _ => .ldx
  | .ldaSr _ => .lda
  | .ldyDir _ => .ldy
  | .ldaDir _ => .lda
  | .ldxDir _ => .ldx
  | .ldaIndLong _ => .lda
  | .tay => .tay
  | .ldaImm _ => .lda
  | .tax => .tax
  | .plb => .plb
  | .ldyAbs _ => .ldy
  | .ldaAbs _ => .lda
  | .ldxAbs _ => .ldx
  | .ldaLong _ => .lda
  | .bcs _ => .bcs
  | .ldaIndY _ => .lda
  | .ldaInd _ => .lda
  | .ldaSrIndY _ => .lda
  | .ldyDirX _ => .ldy
  | .ldaDirX _ => .lda
  | .ldxDirY _ => .ldx
  | .ldaIndLongY _ => .lda
  | .clv => .clv
  | .ldaAbsY _ => .lda
  | .tsx => .tsx
  | .tyx => .tyx
  | .ldyAbsX _ => .ldy
  | .ldaAbsX _ => .lda
  | .ldxAbsY _ => .ldx
  | .ldaLongX _ => .lda
  | .cpyImm _ => .cpy
  | .cmpIndX _ => .cmp
  | .rep _ => .rep
  | .cmpSr _ => .cmp
  | .cpyDir _ => .cpy
  | .cmpDir _ => .cmp
  | .decDir _ => .dec
  | .cmpIndLong _ => .cmp
  | .iny => .iny
  | .cmpImm _ => .cmp
  | .dex => .dex
  | .wai => .wai
  | .cpyAbs _ => .cpy
  | .cmpAbs _ => .cmp
  | .decAbs _ => .dec
  | .cmpLong _ => .cmp
  | .bne _ => .bne
  | .cmpIndY _ => .cmp
  | .cmpInd _ => .cmp
  | .cmpSrIndY _ => .cmp
  | .pei _ => .pei
  | .cmpDirX _ => .cmp
  | .decDirX _ => .dec
  | .cmpIndLongY _ => .cmp
  | .cld => .cld
  | .cmpAbsY _ => .cmp
  | .phx => .phx
  | .stp => .stp
  | .jmlAbsIndLong _ => .jml
  | .cmpAbsX _ => .cmp
  | .decAbsX _ => .dec
  | .cmpLongX _ => .cmp
  | .cpxImm _ => .cpx
  | .sbcIndX _ => .sbc
  | .sep _ => .sep
  | .sbcSr _ => .sbc
  | .cpxDir _ => .cpx
  | .sbcDir _ => .sbc
  | .incDir _ => .inc
  | .sbcIndLong _ => .sbc
  | .inx => .inx
  | .sbcImm _ => .sbc
  | .nop => .nop
  | .xba => .xba
  | .cpxAbs _ => .cpx
  | .sbcAbs _ => .sbc
  | .incAbs _ => .inc
  | .sbcLong _ => .sbc
  | .beq _ => .beq
  | .sbcIndY _ => .sbc
  | .sbcInd _ => .sbc
  | .sbcSrIndY _ => .sbc
  | .pea _ => .pea
  | .sbcDirX _ => .sbc
  | .incDirX _ => .inc
  | .sbcIndLongY _ => .sbc
  | .sed => .sed
  | .sbcAbsY _ => .sbc
  | .plx => .plx
  | .xce => .xce
  | .jsrAbsIndX _ => .jsr
  | .sbcAbsX _ => .sbc
  | .incAbsX _ => .inc
  | .sbcLongX _ => .sbc
  | .wdm _ => .wdm

/-- The operand of a row (R101, R104). -/
def Instr.operand : Instr → Operand
  | .brk sig => .signature sig
  | .oraIndX d8 => .addr (.indX d8)
  | .cop sig => .signature sig
  | .oraSr d8 => .addr (.sr d8)
  | .tsbDir d8 => .addr (.dir d8)
  | .oraDir d8 => .addr (.dir d8)
  | .aslDir d8 => .addr (.dir d8)
  | .oraIndLong d8 => .addr (.indLong d8)
  | .php => .stack
  | .oraImm v => .immA v
  | .aslAcc => .acc
  | .phd => .stack
  | .tsbAbs a16 => .addr (.abs a16)
  | .oraAbs a16 => .addr (.abs a16)
  | .aslAbs a16 => .addr (.abs a16)
  | .oraLong a24 => .addr (.long a24)
  | .bpl r8 => .rel r8
  | .oraIndY d8 => .addr (.indY d8)
  | .oraInd d8 => .addr (.ind d8)
  | .oraSrIndY d8 => .addr (.srIndY d8)
  | .trbDir d8 => .addr (.dir d8)
  | .oraDirX d8 => .addr (.dirX d8)
  | .aslDirX d8 => .addr (.dirX d8)
  | .oraIndLongY d8 => .addr (.indLongY d8)
  | .clc => .implied
  | .oraAbsY a16 => .addr (.absY a16)
  | .incAcc => .acc
  | .tcs => .implied
  | .trbAbs a16 => .addr (.abs a16)
  | .oraAbsX a16 => .addr (.absX a16)
  | .aslAbsX a16 => .addr (.absX a16)
  | .oraLongX a24 => .addr (.longX a24)
  | .jsrAbs a16 => .addr (.abs a16)
  | .andIndX d8 => .addr (.indX d8)
  | .jsl a24 => .addr (.long a24)
  | .andSr d8 => .addr (.sr d8)
  | .bitDir d8 => .addr (.dir d8)
  | .andDir d8 => .addr (.dir d8)
  | .rolDir d8 => .addr (.dir d8)
  | .andIndLong d8 => .addr (.indLong d8)
  | .plp => .stack
  | .andImm v => .immA v
  | .rolAcc => .acc
  | .pld => .stack
  | .bitAbs a16 => .addr (.abs a16)
  | .andAbs a16 => .addr (.abs a16)
  | .rolAbs a16 => .addr (.abs a16)
  | .andLong a24 => .addr (.long a24)
  | .bmi r8 => .rel r8
  | .andIndY d8 => .addr (.indY d8)
  | .andInd d8 => .addr (.ind d8)
  | .andSrIndY d8 => .addr (.srIndY d8)
  | .bitDirX d8 => .addr (.dirX d8)
  | .andDirX d8 => .addr (.dirX d8)
  | .rolDirX d8 => .addr (.dirX d8)
  | .andIndLongY d8 => .addr (.indLongY d8)
  | .sec => .implied
  | .andAbsY a16 => .addr (.absY a16)
  | .decAcc => .acc
  | .tsc => .implied
  | .bitAbsX a16 => .addr (.absX a16)
  | .andAbsX a16 => .addr (.absX a16)
  | .rolAbsX a16 => .addr (.absX a16)
  | .andLongX a24 => .addr (.longX a24)
  | .rti => .stack
  | .eorIndX d8 => .addr (.indX d8)
  | .xfe => .implied
  | .eorSr d8 => .addr (.sr d8)
  | .mvp dst src => .blockMove dst src
  | .eorDir d8 => .addr (.dir d8)
  | .lsrDir d8 => .addr (.dir d8)
  | .eorIndLong d8 => .addr (.indLong d8)
  | .pha => .stack
  | .eorImm v => .immA v
  | .lsrAcc => .acc
  | .phk => .stack
  | .jmpAbs a16 => .addr (.abs a16)
  | .eorAbs a16 => .addr (.abs a16)
  | .lsrAbs a16 => .addr (.abs a16)
  | .eorLong a24 => .addr (.long a24)
  | .bvc r8 => .rel r8
  | .eorIndY d8 => .addr (.indY d8)
  | .eorInd d8 => .addr (.ind d8)
  | .eorSrIndY d8 => .addr (.srIndY d8)
  | .mvn dst src => .blockMove dst src
  | .eorDirX d8 => .addr (.dirX d8)
  | .lsrDirX d8 => .addr (.dirX d8)
  | .eorIndLongY d8 => .addr (.indLongY d8)
  | .cli => .implied
  | .eorAbsY a16 => .addr (.absY a16)
  | .phy => .stack
  | .tcd => .implied
  | .jmlLong a24 => .addr (.long a24)
  | .eorAbsX a16 => .addr (.absX a16)
  | .lsrAbsX a16 => .addr (.absX a16)
  | .eorLongX a24 => .addr (.longX a24)
  | .rts => .stack
  | .adcIndX d8 => .addr (.indX d8)
  | .per r16 => .relLong r16
  | .adcSr d8 => .addr (.sr d8)
  | .stzDir d8 => .addr (.dir d8)
  | .adcDir d8 => .addr (.dir d8)
  | .rorDir d8 => .addr (.dir d8)
  | .adcIndLong d8 => .addr (.indLong d8)
  | .pla => .stack
  | .adcImm v => .immA v
  | .rorAcc => .acc
  | .rtl => .stack
  | .jmpAbsInd a16 => .absInd a16
  | .adcAbs a16 => .addr (.abs a16)
  | .rorAbs a16 => .addr (.abs a16)
  | .adcLong a24 => .addr (.long a24)
  | .bvs r8 => .rel r8
  | .adcIndY d8 => .addr (.indY d8)
  | .adcInd d8 => .addr (.ind d8)
  | .adcSrIndY d8 => .addr (.srIndY d8)
  | .stzDirX d8 => .addr (.dirX d8)
  | .adcDirX d8 => .addr (.dirX d8)
  | .rorDirX d8 => .addr (.dirX d8)
  | .adcIndLongY d8 => .addr (.indLongY d8)
  | .sei => .implied
  | .adcAbsY a16 => .addr (.absY a16)
  | .ply => .stack
  | .tdc => .implied
  | .jmpAbsIndX a16 => .absIndX a16
  | .adcAbsX a16 => .addr (.absX a16)
  | .rorAbsX a16 => .addr (.absX a16)
  | .adcLongX a24 => .addr (.longX a24)
  | .bra r8 => .rel r8
  | .staIndX d8 => .addr (.indX d8)
  | .brl r16 => .relLong r16
  | .staSr d8 => .addr (.sr d8)
  | .styDir d8 => .addr (.dir d8)
  | .staDir d8 => .addr (.dir d8)
  | .stxDir d8 => .addr (.dir d8)
  | .staIndLong d8 => .addr (.indLong d8)
  | .dey => .implied
  | .bitImm v => .immA v
  | .txa => .implied
  | .phb => .stack
  | .styAbs a16 => .addr (.abs a16)
  | .staAbs a16 => .addr (.abs a16)
  | .stxAbs a16 => .addr (.abs a16)
  | .staLong a24 => .addr (.long a24)
  | .bcc r8 => .rel r8
  | .staIndY d8 => .addr (.indY d8)
  | .staInd d8 => .addr (.ind d8)
  | .staSrIndY d8 => .addr (.srIndY d8)
  | .styDirX d8 => .addr (.dirX d8)
  | .staDirX d8 => .addr (.dirX d8)
  | .stxDirY d8 => .addr (.dirY d8)
  | .staIndLongY d8 => .addr (.indLongY d8)
  | .tya => .implied
  | .staAbsY a16 => .addr (.absY a16)
  | .txs => .implied
  | .txy => .implied
  | .stzAbs a16 => .addr (.abs a16)
  | .staAbsX a16 => .addr (.absX a16)
  | .stzAbsX a16 => .addr (.absX a16)
  | .staLongX a24 => .addr (.longX a24)
  | .ldyImm v => .immX v
  | .ldaIndX d8 => .addr (.indX d8)
  | .ldxImm v => .immX v
  | .ldaSr d8 => .addr (.sr d8)
  | .ldyDir d8 => .addr (.dir d8)
  | .ldaDir d8 => .addr (.dir d8)
  | .ldxDir d8 => .addr (.dir d8)
  | .ldaIndLong d8 => .addr (.indLong d8)
  | .tay => .implied
  | .ldaImm v => .immA v
  | .tax => .implied
  | .plb => .stack
  | .ldyAbs a16 => .addr (.abs a16)
  | .ldaAbs a16 => .addr (.abs a16)
  | .ldxAbs a16 => .addr (.abs a16)
  | .ldaLong a24 => .addr (.long a24)
  | .bcs r8 => .rel r8
  | .ldaIndY d8 => .addr (.indY d8)
  | .ldaInd d8 => .addr (.ind d8)
  | .ldaSrIndY d8 => .addr (.srIndY d8)
  | .ldyDirX d8 => .addr (.dirX d8)
  | .ldaDirX d8 => .addr (.dirX d8)
  | .ldxDirY d8 => .addr (.dirY d8)
  | .ldaIndLongY d8 => .addr (.indLongY d8)
  | .clv => .implied
  | .ldaAbsY a16 => .addr (.absY a16)
  | .tsx => .implied
  | .tyx => .implied
  | .ldyAbsX a16 => .addr (.absX a16)
  | .ldaAbsX a16 => .addr (.absX a16)
  | .ldxAbsY a16 => .addr (.absY a16)
  | .ldaLongX a24 => .addr (.longX a24)
  | .cpyImm v => .immX v
  | .cmpIndX d8 => .addr (.indX d8)
  | .rep m8 => .imm8 m8
  | .cmpSr d8 => .addr (.sr d8)
  | .cpyDir d8 => .addr (.dir d8)
  | .cmpDir d8 => .addr (.dir d8)
  | .decDir d8 => .addr (.dir d8)
  | .cmpIndLong d8 => .addr (.indLong d8)
  | .iny => .implied
  | .cmpImm v => .immA v
  | .dex => .implied
  | .wai => .implied
  | .cpyAbs a16 => .addr (.abs a16)
  | .cmpAbs a16 => .addr (.abs a16)
  | .decAbs a16 => .addr (.abs a16)
  | .cmpLong a24 => .addr (.long a24)
  | .bne r8 => .rel r8
  | .cmpIndY d8 => .addr (.indY d8)
  | .cmpInd d8 => .addr (.ind d8)
  | .cmpSrIndY d8 => .addr (.srIndY d8)
  | .pei d8 => .addr (.ind d8)
  | .cmpDirX d8 => .addr (.dirX d8)
  | .decDirX d8 => .addr (.dirX d8)
  | .cmpIndLongY d8 => .addr (.indLongY d8)
  | .cld => .implied
  | .cmpAbsY a16 => .addr (.absY a16)
  | .phx => .stack
  | .stp => .implied
  | .jmlAbsIndLong a16 => .absIndLong a16
  | .cmpAbsX a16 => .addr (.absX a16)
  | .decAbsX a16 => .addr (.absX a16)
  | .cmpLongX a24 => .addr (.longX a24)
  | .cpxImm v => .immX v
  | .sbcIndX d8 => .addr (.indX d8)
  | .sep m8 => .imm8 m8
  | .sbcSr d8 => .addr (.sr d8)
  | .cpxDir d8 => .addr (.dir d8)
  | .sbcDir d8 => .addr (.dir d8)
  | .incDir d8 => .addr (.dir d8)
  | .sbcIndLong d8 => .addr (.indLong d8)
  | .inx => .implied
  | .sbcImm v => .immA v
  | .nop => .implied
  | .xba => .implied
  | .cpxAbs a16 => .addr (.abs a16)
  | .sbcAbs a16 => .addr (.abs a16)
  | .incAbs a16 => .addr (.abs a16)
  | .sbcLong a24 => .addr (.long a24)
  | .beq r8 => .rel r8
  | .sbcIndY d8 => .addr (.indY d8)
  | .sbcInd d8 => .addr (.ind d8)
  | .sbcSrIndY d8 => .addr (.srIndY d8)
  | .pea a16 => .addr (.abs a16)
  | .sbcDirX d8 => .addr (.dirX d8)
  | .incDirX d8 => .addr (.dirX d8)
  | .sbcIndLongY d8 => .addr (.indLongY d8)
  | .sed => .implied
  | .sbcAbsY a16 => .addr (.absY a16)
  | .plx => .stack
  | .xce => .implied
  | .jsrAbsIndX a16 => .absIndX a16
  | .sbcAbsX a16 => .addr (.absX a16)
  | .incAbsX a16 => .addr (.absX a16)
  | .sbcLongX a24 => .addr (.longX a24)
  | .wdm skip => .ignored skip

/-- The format symbol of a row (R101, R104). -/
def Instr.format (i : Instr) : Format := i.operand.format

/-- The length of an instruction in bytes at the widths in force (R102, R112). -/
def Instr.length (w : Widths) (i : Instr) : Nat := 1 + i.operand.size w

/-! ### The decoder -/

/-- The four bytes after an opcode byte. -/
structure OperandBytes where
  b1 : Byte
  b2 : Byte
  b3 : Byte
  b4 : Byte
deriving DecidableEq, Repr

/-- The four bytes at the front of a list; where it is shorter, they are not part of the instruction. -/
def OperandBytes.ofRest (rest : List Byte) : OperandBytes :=
  { b1 := rest.getD 0 0, b2 := rest.getD 1 0, b3 := rest.getD 2 0, b4 := rest.getD 3 0 }

/-- `a16` and `rl16` (R101). -/
def OperandBytes.a16 (o : OperandBytes) : Word16 := o.b2 ++ o.b1

/-- `al24` (R101). -/
def OperandBytes.a24 (o : OperandBytes) : Long24 := o.b3 ++ o.a16

/-- An immediate of a width, zero-extended (R101, R103). -/
def OperandBytes.imm (o : OperandBytes) : Width → Word32
  | .w8 => o.b1.setWidth 32
  | .w16 => o.a16.setWidth 32
  | .w32 => o.b4 ++ o.a24

/-- Row 0x of the opcode matrix (R104); `lo` is the low hex digit. -/
def decodeRow0 (w : Widths) (o : OperandBytes) (lo : Nat) : Instr :=
  match lo with
  | 0 => .brk o.b1
  | 1 => .oraIndX o.b1
  | 2 => .cop o.b1
  | 3 => .oraSr o.b1
  | 4 => .tsbDir o.b1
  | 5 => .oraDir o.b1
  | 6 => .aslDir o.b1
  | 7 => .oraIndLong o.b1
  | 8 => .php
  | 9 => .oraImm (o.imm w.mw)
  | 10 => .aslAcc
  | 11 => .phd
  | 12 => .tsbAbs o.a16
  | 13 => .oraAbs o.a16
  | 14 => .aslAbs o.a16
  | _ => .oraLong o.a24

/-- Row 1x of the opcode matrix (R104); `lo` is the low hex digit. -/
def decodeRow1 (_w : Widths) (o : OperandBytes) (lo : Nat) : Instr :=
  match lo with
  | 0 => .bpl o.b1
  | 1 => .oraIndY o.b1
  | 2 => .oraInd o.b1
  | 3 => .oraSrIndY o.b1
  | 4 => .trbDir o.b1
  | 5 => .oraDirX o.b1
  | 6 => .aslDirX o.b1
  | 7 => .oraIndLongY o.b1
  | 8 => .clc
  | 9 => .oraAbsY o.a16
  | 10 => .incAcc
  | 11 => .tcs
  | 12 => .trbAbs o.a16
  | 13 => .oraAbsX o.a16
  | 14 => .aslAbsX o.a16
  | _ => .oraLongX o.a24

/-- Row 2x of the opcode matrix (R104); `lo` is the low hex digit. -/
def decodeRow2 (w : Widths) (o : OperandBytes) (lo : Nat) : Instr :=
  match lo with
  | 0 => .jsrAbs o.a16
  | 1 => .andIndX o.b1
  | 2 => .jsl o.a24
  | 3 => .andSr o.b1
  | 4 => .bitDir o.b1
  | 5 => .andDir o.b1
  | 6 => .rolDir o.b1
  | 7 => .andIndLong o.b1
  | 8 => .plp
  | 9 => .andImm (o.imm w.mw)
  | 10 => .rolAcc
  | 11 => .pld
  | 12 => .bitAbs o.a16
  | 13 => .andAbs o.a16
  | 14 => .rolAbs o.a16
  | _ => .andLong o.a24

/-- Row 3x of the opcode matrix (R104); `lo` is the low hex digit. -/
def decodeRow3 (_w : Widths) (o : OperandBytes) (lo : Nat) : Instr :=
  match lo with
  | 0 => .bmi o.b1
  | 1 => .andIndY o.b1
  | 2 => .andInd o.b1
  | 3 => .andSrIndY o.b1
  | 4 => .bitDirX o.b1
  | 5 => .andDirX o.b1
  | 6 => .rolDirX o.b1
  | 7 => .andIndLongY o.b1
  | 8 => .sec
  | 9 => .andAbsY o.a16
  | 10 => .decAcc
  | 11 => .tsc
  | 12 => .bitAbsX o.a16
  | 13 => .andAbsX o.a16
  | 14 => .rolAbsX o.a16
  | _ => .andLongX o.a24

/-- Row 4x of the opcode matrix (R104); `lo` is the low hex digit. -/
def decodeRow4 (w : Widths) (o : OperandBytes) (lo : Nat) : Instr :=
  match lo with
  | 0 => .rti
  | 1 => .eorIndX o.b1
  | 2 => .wdm o.b1
  | 3 => .eorSr o.b1
  | 4 => .mvp o.b1 o.b2
  | 5 => .eorDir o.b1
  | 6 => .lsrDir o.b1
  | 7 => .eorIndLong o.b1
  | 8 => .pha
  | 9 => .eorImm (o.imm w.mw)
  | 10 => .lsrAcc
  | 11 => .phk
  | 12 => .jmpAbs o.a16
  | 13 => .eorAbs o.a16
  | 14 => .lsrAbs o.a16
  | _ => .eorLong o.a24

/-- Row 5x of the opcode matrix (R104); `lo` is the low hex digit. -/
def decodeRow5 (_w : Widths) (o : OperandBytes) (lo : Nat) : Instr :=
  match lo with
  | 0 => .bvc o.b1
  | 1 => .eorIndY o.b1
  | 2 => .eorInd o.b1
  | 3 => .eorSrIndY o.b1
  | 4 => .mvn o.b1 o.b2
  | 5 => .eorDirX o.b1
  | 6 => .lsrDirX o.b1
  | 7 => .eorIndLongY o.b1
  | 8 => .cli
  | 9 => .eorAbsY o.a16
  | 10 => .phy
  | 11 => .tcd
  | 12 => .jmlLong o.a24
  | 13 => .eorAbsX o.a16
  | 14 => .lsrAbsX o.a16
  | _ => .eorLongX o.a24

/-- Row 6x of the opcode matrix (R104); `lo` is the low hex digit. -/
def decodeRow6 (w : Widths) (o : OperandBytes) (lo : Nat) : Instr :=
  match lo with
  | 0 => .rts
  | 1 => .adcIndX o.b1
  | 2 => .per o.a16
  | 3 => .adcSr o.b1
  | 4 => .stzDir o.b1
  | 5 => .adcDir o.b1
  | 6 => .rorDir o.b1
  | 7 => .adcIndLong o.b1
  | 8 => .pla
  | 9 => .adcImm (o.imm w.mw)
  | 10 => .rorAcc
  | 11 => .rtl
  | 12 => .jmpAbsInd o.a16
  | 13 => .adcAbs o.a16
  | 14 => .rorAbs o.a16
  | _ => .adcLong o.a24

/-- Row 7x of the opcode matrix (R104); `lo` is the low hex digit. -/
def decodeRow7 (_w : Widths) (o : OperandBytes) (lo : Nat) : Instr :=
  match lo with
  | 0 => .bvs o.b1
  | 1 => .adcIndY o.b1
  | 2 => .adcInd o.b1
  | 3 => .adcSrIndY o.b1
  | 4 => .stzDirX o.b1
  | 5 => .adcDirX o.b1
  | 6 => .rorDirX o.b1
  | 7 => .adcIndLongY o.b1
  | 8 => .sei
  | 9 => .adcAbsY o.a16
  | 10 => .ply
  | 11 => .tdc
  | 12 => .jmpAbsIndX o.a16
  | 13 => .adcAbsX o.a16
  | 14 => .rorAbsX o.a16
  | _ => .adcLongX o.a24

/-- Row 8x of the opcode matrix (R104); `lo` is the low hex digit. -/
def decodeRow8 (w : Widths) (o : OperandBytes) (lo : Nat) : Instr :=
  match lo with
  | 0 => .bra o.b1
  | 1 => .staIndX o.b1
  | 2 => .brl o.a16
  | 3 => .staSr o.b1
  | 4 => .styDir o.b1
  | 5 => .staDir o.b1
  | 6 => .stxDir o.b1
  | 7 => .staIndLong o.b1
  | 8 => .dey
  | 9 => .bitImm (o.imm w.mw)
  | 10 => .txa
  | 11 => .phb
  | 12 => .styAbs o.a16
  | 13 => .staAbs o.a16
  | 14 => .stxAbs o.a16
  | _ => .staLong o.a24

/-- Row 9x of the opcode matrix (R104); `lo` is the low hex digit. -/
def decodeRow9 (_w : Widths) (o : OperandBytes) (lo : Nat) : Instr :=
  match lo with
  | 0 => .bcc o.b1
  | 1 => .staIndY o.b1
  | 2 => .staInd o.b1
  | 3 => .staSrIndY o.b1
  | 4 => .styDirX o.b1
  | 5 => .staDirX o.b1
  | 6 => .stxDirY o.b1
  | 7 => .staIndLongY o.b1
  | 8 => .tya
  | 9 => .staAbsY o.a16
  | 10 => .txs
  | 11 => .txy
  | 12 => .stzAbs o.a16
  | 13 => .staAbsX o.a16
  | 14 => .stzAbsX o.a16
  | _ => .staLongX o.a24

/-- Row Ax of the opcode matrix (R104); `lo` is the low hex digit. -/
def decodeRowA (w : Widths) (o : OperandBytes) (lo : Nat) : Instr :=
  match lo with
  | 0 => .ldyImm (o.imm w.xw)
  | 1 => .ldaIndX o.b1
  | 2 => .ldxImm (o.imm w.xw)
  | 3 => .ldaSr o.b1
  | 4 => .ldyDir o.b1
  | 5 => .ldaDir o.b1
  | 6 => .ldxDir o.b1
  | 7 => .ldaIndLong o.b1
  | 8 => .tay
  | 9 => .ldaImm (o.imm w.mw)
  | 10 => .tax
  | 11 => .plb
  | 12 => .ldyAbs o.a16
  | 13 => .ldaAbs o.a16
  | 14 => .ldxAbs o.a16
  | _ => .ldaLong o.a24

/-- Row Bx of the opcode matrix (R104); `lo` is the low hex digit. -/
def decodeRowB (_w : Widths) (o : OperandBytes) (lo : Nat) : Instr :=
  match lo with
  | 0 => .bcs o.b1
  | 1 => .ldaIndY o.b1
  | 2 => .ldaInd o.b1
  | 3 => .ldaSrIndY o.b1
  | 4 => .ldyDirX o.b1
  | 5 => .ldaDirX o.b1
  | 6 => .ldxDirY o.b1
  | 7 => .ldaIndLongY o.b1
  | 8 => .clv
  | 9 => .ldaAbsY o.a16
  | 10 => .tsx
  | 11 => .tyx
  | 12 => .ldyAbsX o.a16
  | 13 => .ldaAbsX o.a16
  | 14 => .ldxAbsY o.a16
  | _ => .ldaLongX o.a24

/-- Row Cx of the opcode matrix (R104); `lo` is the low hex digit. -/
def decodeRowC (w : Widths) (o : OperandBytes) (lo : Nat) : Instr :=
  match lo with
  | 0 => .cpyImm (o.imm w.xw)
  | 1 => .cmpIndX o.b1
  | 2 => .rep o.b1
  | 3 => .cmpSr o.b1
  | 4 => .cpyDir o.b1
  | 5 => .cmpDir o.b1
  | 6 => .decDir o.b1
  | 7 => .cmpIndLong o.b1
  | 8 => .iny
  | 9 => .cmpImm (o.imm w.mw)
  | 10 => .dex
  | 11 => .wai
  | 12 => .cpyAbs o.a16
  | 13 => .cmpAbs o.a16
  | 14 => .decAbs o.a16
  | _ => .cmpLong o.a24

/-- Row Dx of the opcode matrix (R104); `lo` is the low hex digit. -/
def decodeRowD (_w : Widths) (o : OperandBytes) (lo : Nat) : Instr :=
  match lo with
  | 0 => .bne o.b1
  | 1 => .cmpIndY o.b1
  | 2 => .cmpInd o.b1
  | 3 => .cmpSrIndY o.b1
  | 4 => .pei o.b1
  | 5 => .cmpDirX o.b1
  | 6 => .decDirX o.b1
  | 7 => .cmpIndLongY o.b1
  | 8 => .cld
  | 9 => .cmpAbsY o.a16
  | 10 => .phx
  | 11 => .stp
  | 12 => .jmlAbsIndLong o.a16
  | 13 => .cmpAbsX o.a16
  | 14 => .decAbsX o.a16
  | _ => .cmpLongX o.a24

/-- Row Ex of the opcode matrix (R104); `lo` is the low hex digit. -/
def decodeRowE (w : Widths) (o : OperandBytes) (lo : Nat) : Instr :=
  match lo with
  | 0 => .cpxImm (o.imm w.xw)
  | 1 => .sbcIndX o.b1
  | 2 => .sep o.b1
  | 3 => .sbcSr o.b1
  | 4 => .cpxDir o.b1
  | 5 => .sbcDir o.b1
  | 6 => .incDir o.b1
  | 7 => .sbcIndLong o.b1
  | 8 => .inx
  | 9 => .sbcImm (o.imm w.mw)
  | 10 => .nop
  | 11 => .xba
  | 12 => .cpxAbs o.a16
  | 13 => .sbcAbs o.a16
  | 14 => .incAbs o.a16
  | _ => .sbcLong o.a24

/-- Row Fx of the opcode matrix (R104); `lo` is the low hex digit. -/
def decodeRowF (_w : Widths) (o : OperandBytes) (lo : Nat) : Instr :=
  match lo with
  | 0 => .beq o.b1
  | 1 => .sbcIndY o.b1
  | 2 => .sbcInd o.b1
  | 3 => .sbcSrIndY o.b1
  | 4 => .pea o.a16
  | 5 => .sbcDirX o.b1
  | 6 => .incDirX o.b1
  | 7 => .sbcIndLongY o.b1
  | 8 => .sed
  | 9 => .sbcAbsY o.a16
  | 10 => .plx
  | 11 => .xce
  | 12 => .jsrAbsIndX o.a16
  | 13 => .sbcAbsX o.a16
  | 14 => .incAbsX o.a16
  | _ => .sbcLongX o.a24

/-- The opcode matrix (R104), with WDM in cell 42 (R106, 44_stack_status_system.md R326). -/
def decodeMatrix (w : Widths) (o : OperandBytes) (op : Byte) : Instr :=
  let lo := op.toNat % 16
  match op.toNat / 16 with
  | 0 => decodeRow0 w o lo
  | 1 => decodeRow1 w o lo
  | 2 => decodeRow2 w o lo
  | 3 => decodeRow3 w o lo
  | 4 => decodeRow4 w o lo
  | 5 => decodeRow5 w o lo
  | 6 => decodeRow6 w o lo
  | 7 => decodeRow7 w o lo
  | 8 => decodeRow8 w o lo
  | 9 => decodeRow9 w o lo
  | 10 => decodeRowA w o lo
  | 11 => decodeRowB w o lo
  | 12 => decodeRowC w o lo
  | 13 => decodeRowD w o lo
  | 14 => decodeRowE w o lo
  | _ => decodeRowF w o lo

/-- The instruction of an opcode byte and the bytes after it, for a value of `XFE_OPCODE` (R106). -/
def decodeOpWith (xfe : Option Byte) (w : Widths) (op : Byte) (o : OperandBytes) : Instr :=
  if xfe = some op then .xfe else decodeMatrix w o op

/-- The instruction of an opcode byte and the bytes after it: total, since every opcode is assigned
(R107). -/
def decodeOp (w : Widths) (op : Byte) (o : OperandBytes) : Instr :=
  decodeOpWith Config.xfeOpcode w op o

/-- Why a list of bytes holds no whole instruction. -/
inductive DecodeError where
  /-- There is no opcode byte. -/
  | empty
  /-- The list ends before the instruction does. -/
  | truncated
deriving DecidableEq, Repr

/-- Reads one instruction from the front of a list of bytes and returns the rest (R112). -/
def decodeWith (xfe : Option Byte) (w : Widths) : List Byte → Except DecodeError (Instr × List Byte)
  | [] => .error .empty
  | op :: rest =>
    let i := decodeOpWith xfe w op (.ofRest rest)
    if rest.length < i.operand.size w then .error .truncated
    else .ok (i, rest.drop (i.operand.size w))

/-- Reads one instruction at the parameter's value of `XFE_OPCODE`. -/
def decode (w : Widths) (bytes : List Byte) : Except DecodeError (Instr × List Byte) :=
  decodeWith Config.xfeOpcode w bytes

/-! ### The encoder -/

/-- The opcode byte of an instruction, for a value of `XFE_OPCODE` (R106). -/
def Instr.opcodeWith (xfe : Option Byte) (i : Instr) : Byte :=
  if i = .xfe then xfe.getD i.opcode else i.opcode

/-- The bytes of an instruction, for a value of `XFE_OPCODE`. -/
def encodeWith (xfe : Option Byte) (w : Widths) (i : Instr) : List Byte :=
  i.opcodeWith xfe :: i.operand.encode w

/-- The bytes of an instruction at the widths in force (R101, R103). -/
def encode (w : Widths) (i : Instr) : List Byte := encodeWith Config.xfeOpcode w i

/-! ### The host's word -/

/-- Byte `k` of an instruction whose bits are `w`; the bits from `nbits` on are 0. -/
def tableByte (nbits w k : Nat) : Byte := BitVec.ofNat 8 (w % 2 ^ nbits / 256 ^ k)

/-- The first five bytes, the longest instruction's, of an instruction whose bits are `w`. -/
def tableBytes (nbits w : Nat) : List Byte := (List.range 5).map (tableByte nbits w)

/-- The widths after reset: EMU8 (10_state.md R40, R47). -/
def Widths.atReset : Widths := { mw := .w8, xw := .w8 }

/-- The instruction the decoder reads, at the widths of reset, from an instruction whose bits are `w`. -/
def decodeTableWord (nbits w : Nat) : Option Instr :=
  match decode Widths.atReset (tableBytes nbits w) with
  | .ok (i, _) => some i
  | .error _ => none

end Sys2Proof
end

