-- ==== Sys2Proof/Machine/State.lean ====
section
/-! DEFINITION. The state of the W65C832 as plain data, the reasons a step can stop, and the state
after reset (spec 10_state.md). -/

namespace Sys2Proof.Machine

/-- Memory: the (address, byte) pairs that differ from `Config.unlistedByte`, addresses rising. -/
abbrev Memory := List Host.Cell

/-- What ABORT- did during a step, and whether the aborted instruction's memory writes reached
memory, which is the platform's business (60_exceptions.md R345, R362, 93 U14). -/
inductive AbortPulse where
  | none
  | writesBlocked
  | writesLand
deriving DecidableEq, Repr

/-- One sample of the host's input trace: what the four input pins did since the last instruction
boundary (60_exceptions.md R346, 92_eei_decisions.md D16; log 17). -/
structure PinSample where
  /-- RES- was low: a full reset takes place at this boundary (R342). -/
  resLow : Bool
  /-- ABORT- was pulsed (R345). -/
  abort : AbortPulse
  /-- NMI- fell from high to low (R344). -/
  nmiEdge : Bool
  /-- IRQ- is low at this boundary (R343). -/
  irqLow : Bool
deriving DecidableEq, Repr

/-- Everything the spec gives the machine (10_state.md R20 to R45), the host's input trace, and the
model's index of free values. -/
structure State where
  /-- The Accumulator A (R20). -/
  a : Word32
  /-- Index register X (R22). -/
  x : Word32
  /-- Index register Y (R22). -/
  y : Word32
  /-- The Stack Pointer S (R24). -/
  sp : Word16
  /-- The Direct register D (R26). -/
  d : Word16
  /-- The Data Bank Register (R27). -/
  dbr : Byte
  /-- The Program Bank Register (R28). -/
  pbr : Byte
  /-- The Program Counter (R29). -/
  pc : Word16
  /-- The Processor Status register P, bits N V M X D I Z C (R30). -/
  p : Byte
  /-- The emulation select flag E8 (R36). -/
  e8 : Bool
  /-- The emulation select flag E16 (R36). -/
  e16 : Bool
  /-- Set by WAI (R44). -/
  waiting : Bool
  /-- Set by STP (R44). -/
  stopped : Bool
  /-- An NMI- edge was seen and its sequence not yet taken (R43 a). -/
  nmiPending : Bool
  /-- ABORT- was pulsed and its sequence not yet taken (R43 c). -/
  abortPending : Bool
  /-- The level of the IRQ- input, not a latch (R43 b). -/
  irqLow : Bool
  /-- The Instruction Register: the last opcode fetched (R45). -/
  ir : Byte
  /-- Memory (20_memory.md R70). -/
  mem : Memory
  /-- The samples of the input pins still to come, next one first (D16; log 17). -/
  inputs : List PinSample
  /-- The model's own: the index of the running step's free values (log 13). -/
  draw : Nat
deriving DecidableEq, Repr

/-- The faults of the machine: none. "No instruction of this processor faults on its operands, its
address or its encoding" (60_exceptions.md R340). -/
inductive Fault
deriving DecidableEq, Repr

/-- Why the model refuses to go on. -/
inductive Refusal where
  /-- Raised by an arm of `exec` whose instruction has no meaning yet; safe, since nothing is claimed. -/
  | notModelled (mnemonic : String)
  /-- Raised by PEA, PEI, PER, PHD, PLD, PLB, JSL, RTL and JSR `(a,x)` in EMU8 when one of their
  pushes or pulls would wrap `S[7:0]` (44_stack_status_system.md R307, 93 U5): safe, "the
  instruction's memory effect and final S are `unspecified` and the model refuses the run". -/
  | stackPageWrap
deriving DecidableEq, Repr

/-- What an instruction or a step answers. -/
abbrev Result := Host.Outcome State Fault Refusal

/-- The machine right after reset (10_state.md R47, 70_reset_and_hazards.md R392), with nothing in
memory, so that the reset vector reads as two unlisted bytes. DESIGN CHOICE (log 2), unsafe: the
values of A, `X[7:0]`, `Y[7:0]`, `S[7:0]`, N, V, Z and C, which the spec leaves uninitialised. -/
def State.reset : State where
  a := 0xA5A5A5A5#32
  x := 0x0000005A#32
  y := 0x000000C3#32
  sp := 0x0180#16
  d := 0x0000#16
  dbr := 0x00#8
  pbr := 0x00#8
  pc := Config.unlistedByte 0xFFFD ++ Config.unlistedByte 0xFFFC
  p := 0xF7#8
  e8 := true
  e16 := true
  waiting := false
  stopped := false
  nmiPending := false
  abortPending := false
  irqLow := false
  ir := 0x00#8
  mem := []
  inputs := []
  draw := 0

end Sys2Proof.Machine
end

