-- ==== Sys2Proof/Machine/Flags.lean ====
section
/-! DEFINITION. The bits of P, the mode and widths they select, and every flag computation of the
spec (10_state.md R30 to R40, 42_arith_logic.md). -/

namespace Sys2Proof.Machine

/-- The bits of P (10_state.md R30). -/
inductive Flag where
  | c
  | z
  | i
  | d
  | x
  | m
  | v
  | n
deriving DecidableEq, Repr

/-- The bit position of a flag in P (R30). -/
def Flag.pos : Flag → Nat
  | .c => 0
  | .z => 1
  | .i => 2
  | .d => 3
  | .x => 4
  | .m => 5
  | .v => 6
  | .n => 7

/-- A copy of P with one flag set or cleared. -/
def withFlag (p : Byte) (f : Flag) (b : Bool) : Byte :=
  if b then p ||| (1#8 <<< f.pos) else p &&& ~~~(1#8 <<< f.pos)

/-- One flag of P. -/
def State.flag (s : State) (f : Flag) : Bool := s.p.getLsbD f.pos

/-- Writes one flag of P. -/
def State.setFlag (s : State) (f : Flag) (b : Bool) : State := { s with p := withFlag s.p f b }

/-- `setNZ_w(v)` (00_scope.md R6). -/
def State.setNZ (s : State) {n : Nat} (v : BitVec n) : State :=
  (s.setFlag .n v.msb).setFlag .z (v == 0#n)

/-- The operating mode (10_state.md R38). -/
def State.mode (s : State) : Mode :=
  match s.e16, s.e8 with
  | true, true => .emu8
  | true, false => .emu16
  | false, _ => .native

/-- The predicate EMU8 (R38). -/
def State.emu8 (s : State) : Bool := s.e16 && s.e8

/-- `mw`, the width of the accumulator and its memory operands (R40). -/
def State.mw (s : State) : Width := Config.accWidth s.e16 s.e8 (s.flag .m)

/-- `xw`, the width of the index registers and their memory operands (R40). -/
def State.xw (s : State) : Width := Config.indexWidth s.e16 s.e8 (s.flag .x)

/-- Both widths, as the decoder reads them (30_encoding.md R102). -/
def State.widths (s : State) : Widths := { mw := s.mw, xw := s.xw }

/-- A result with the four flags an add, subtract or compare sets. -/
structure AluResult (n : Nat) where
  value : BitVec n
  n : Bool
  v : Bool
  z : Bool
  c : Bool
deriving DecidableEq, Repr

/-- ADC in binary mode (42_arith_logic.md R211). -/
def addBinary {n : Nat} (a m : BitVec n) (c : Bool) : AluResult n :=
  let sum := a.toNat + m.toNat + c.toNat
  let r := BitVec.ofNat n sum
  { value := r
    n := r.msb
    v := a.msb == m.msb && r.msb != a.msb
    z := r == 0#n
    c := decide (2 ^ n ≤ sum) }

/-- SBC in binary mode (R213). -/
def subBinary {n : Nat} (a m : BitVec n) (c : Bool) : AluResult n :=
  let sum := a.toNat + (2 ^ n - 1 - m.toNat) + c.toNat
  let r := BitVec.ofNat n sum
  { value := r
    n := r.msb
    v := a.msb != m.msb && r.msb != a.msb
    z := r == 0#n
    c := decide (2 ^ n ≤ sum) }

/-- The number that `k` packed decimal digits stand for, digit `j` in bits `4j+3 : 4j` (R212). -/
def fromBcd : Nat → Nat → Nat
  | 0, _ => 0
  | k + 1, v => v % 16 + 10 * fromBcd k (v / 16)

/-- The `k` packed decimal digits of a number (R212). -/
def toBcd : Nat → Nat → Nat
  | 0, _ => 0
  | k + 1, v => v % 10 + 16 * toBcd k (v / 10)

/-- Every one of the low `k` digits is in 0..9 (R212). -/
def validBcd : Nat → Nat → Bool
  | 0, _ => true
  | k + 1, v => decide (v % 16 < 10) && validBcd k (v / 16)

/-- ADC on valid decimal operands; `v` is the free value of P.V (R212, 93 U3). -/
def addDecimal {n : Nat} (a m : BitVec n) (c v : Bool) : AluResult n :=
  let k := n / 4
  let sum := fromBcd k a.toNat + fromBcd k m.toNat + c.toNat
  let r := BitVec.ofNat n (toBcd k (sum % 10 ^ k))
  { value := r, n := r.msb, v := v, z := r == 0#n, c := decide (10 ^ k ≤ sum) }

/-- SBC on valid decimal operands; `v` is the free value of P.V (R212, 93 U3). -/
def subDecimal {n : Nat} (a m : BitVec n) (c v : Bool) : AluResult n :=
  let k := n / 4
  let diff : Int := fromBcd k a.toNat - fromBcd k m.toNat - (1 - c.toNat)
  let r := BitVec.ofNat n (toBcd k (diff % 10 ^ k).toNat)
  { value := r, n := r.msb, v := v, z := r == 0#n, c := decide (0 ≤ diff) }

/-- ADC or SBC on an invalid decimal digit: every value is free (R212, 93 U4). -/
def invalidDecimal (n draw : Nat) : AluResult n :=
  { value := (Config.freeDecimalResult draw).setWidth n
    n := Config.freeDecimalN draw
    v := Config.freeDecimalV draw
    z := Config.freeDecimalZ draw
    c := Config.freeDecimalC draw }

/-- Both operands hold only decimal digits (R212). -/
def validOperands {n : Nat} (a m : BitVec n) : Bool :=
  validBcd (n / 4) a.toNat && validBcd (n / 4) m.toNat

/-- ADC in the mode that `dec`, the flag D, selects (R211, R212). -/
def adc {n : Nat} (draw : Nat) (dec : Bool) (a m : BitVec n) (c : Bool) : AluResult n :=
  if dec then
    if validOperands a m then addDecimal a m c (Config.freeDecimalV draw)
    else invalidDecimal n draw
  else addBinary a m c

/-- SBC in the mode that `dec`, the flag D, selects (R213, R212). -/
def sbc {n : Nat} (draw : Nat) (dec : Bool) (a m : BitVec n) (c : Bool) : AluResult n :=
  if dec then
    if validOperands a m then subDecimal a m c (Config.freeDecimalV draw)
    else invalidDecimal n draw
  else subBinary a m c

/-- Writes N, V, Z and C, as ADC and SBC do (R211). -/
def State.setNVZC (s : State) {n : Nat} (r : AluResult n) : State :=
  (((s.setFlag .n r.n).setFlag .v r.v).setFlag .z r.z).setFlag .c r.c

/-- The flags of CMP, CPX and CPY: always binary, V not written (R214). -/
def State.setCompare (s : State) {n : Nat} (a m : BitVec n) : State :=
  (s.setNZ (a - m)).setFlag .c (decide (m.toNat ≤ a.toNat))

/-- A shifted value and the bit shifted out. -/
structure ShiftResult (n : Nat) where
  value : BitVec n
  carry : Bool
deriving DecidableEq, Repr

/-- ASL (R227). -/
def shiftLeft {n : Nat} (v : BitVec n) : ShiftResult n :=
  { value := BitVec.ofNat n (v.toNat * 2), carry := v.msb }

/-- LSR (R228). -/
def shiftRight {n : Nat} (v : BitVec n) : ShiftResult n :=
  { value := BitVec.ofNat n (v.toNat / 2), carry := v.getLsbD 0 }

/-- ROL (R229). -/
def rotateLeft {n : Nat} (c : Bool) (v : BitVec n) : ShiftResult n :=
  { value := BitVec.ofNat n (v.toNat * 2 % 2 ^ n + c.toNat), carry := v.msb }

/-- ROR (R230). -/
def rotateRight {n : Nat} (c : Bool) (v : BitVec n) : ShiftResult n :=
  { value := BitVec.ofNat n (v.toNat / 2 + c.toNat * 2 ^ (n - 1)), carry := v.getLsbD 0 }

end Sys2Proof.Machine
end

