-- ==== Sys2Proof/Machine/Ops.lean ====
section
/-! DEFINITION. The named operations over memory and registers, the stack, the mode switch, taking
an interrupt and returning from one, and reset. -/

namespace Sys2Proof.Machine

/-- Byte `i` of a value, byte 0 the least significant (20_memory.md R79). -/
def byteOf {n : Nat} (v : BitVec n) (i : Nat) : Byte := v.extractLsb' (8 * i) 8

/-- A 32-bit value whose low byte is `v` and whose other bytes are zero. -/
def zeroUpper (v : Word32) : Word32 := (v.setWidth 8).setWidth 32

/-! ### Memory -/

/-- The byte at an address. -/
def Memory.read : Memory → Nat → Byte
  | [], a => Config.unlistedByte a
  | (k, v) :: rest, a => if k = a then v else Memory.read rest a

/-- Removes every entry of an address. -/
def Memory.erase (m : Memory) (a : Nat) : Memory := m.filter fun c => c.1 != a

/-- Puts an entry in its place among rising addresses. -/
def Memory.insert : Memory → Nat → Byte → Memory
  | [], a, v => [(a, v)]
  | (k, w) :: rest, a, v =>
    if a < k then (a, v) :: (k, w) :: rest else (k, w) :: Memory.insert rest a v

/-- Writes one byte, keeping the canonical form. -/
def Memory.write (m : Memory) (a : Nat) (v : Byte) : Memory :=
  if v = Config.unlistedByte a then m.erase a else (m.erase a).insert a v

/-- The canonical form: addresses strictly rising and inside the address space, and no entry equal to
what an unlisted address reads as. -/
abbrev Memory.wf (m : Memory) : Prop :=
  m.Pairwise (fun c c' => c.1 < c'.1) ∧
    ∀ c ∈ m, c.1 < Config.addrSpace ∧ c.2 ≠ Config.unlistedByte c.1

/-- Reads the byte at an address, of which the pins carry `ADDR_BITS` bits (20_memory.md R71, R77). -/
def State.readByte (s : State) (a : Nat) : Byte := s.mem.read (a % Config.addrSpace)

/-- Writes the byte at an address (R71, R77). -/
def State.writeByte (s : State) (a : Nat) (v : Byte) : State :=
  { s with mem := s.mem.write (a % Config.addrSpace) v }

/-- Where the successive bytes of an operand lie (40_addressing_modes.md R131, R157). -/
inductive Loc where
  /-- R131 (a), (d): Bank 0, wrapping inside it. -/
  | bank0 (off : Word16)
  /-- R157: one page of Bank 0, wrapping inside it. -/
  | page (hi lo : Byte)
  /-- R131 (c): a program bank, wrapping inside it. -/
  | program (bank : Byte) (off : Word16)
  /-- R131 (b): the linear data space. -/
  | linear (ea : Nat)
deriving DecidableEq, Repr

/-- The address of byte `i` of an operand (R131, R157). -/
def Loc.addr : Loc → Nat → Nat
  | .bank0 off, i => (off + BitVec.ofNat 16 i).toNat
  | .page hi lo, i => (hi ++ (lo + BitVec.ofNat 8 i)).toNat
  | .program bank off, i => bank.toNat * 65536 + (off + BitVec.ofNat 16 i).toNat
  | .linear ea, i => (ea + i) % Config.addrSpace

/-- `MemRead(addr, n)`: `n` bytes, the lowest address the least significant (00_scope.md R6,
20_memory.md R79). -/
def State.readLE (s : State) (l : Loc) : Nat → Nat
  | 0 => 0
  | n + 1 => s.readLE l n + (s.readByte (l.addr n)).toNat * 256 ^ n

/-- `MemWrite(addr, n, v)`: the low `n` bytes of `v`, from the lowest address upward (R6, R79). -/
def State.writeLE (s : State) (l : Loc) (v : Nat) : Nat → State
  | 0 => s
  | n + 1 => (s.writeLE l v n).writeByte (l.addr n) (BitVec.ofNat 8 (v / 256 ^ n))

/-- Reads a memory operand of a width. -/
def State.readWidth (s : State) (l : Loc) (w : Width) : BitVec w.bits :=
  BitVec.ofNat w.bits (s.readLE l w.bytes)

/-- Writes a memory operand of a width. -/
def State.writeWidth (s : State) (l : Loc) (w : Width) (v : BitVec w.bits) : State :=
  s.writeLE l v.toNat w.bytes

/-- A two-byte pointer (43_control_transfer.md R250). -/
def State.ptr16 (s : State) (l : Loc) : Word16 :=
  s.readByte (l.addr 1) ++ s.readByte (l.addr 0)

/-- A three-byte pointer (40_addressing_modes.md R144, R155). -/
def State.ptr24 (s : State) (l : Loc) : Long24 :=
  s.readByte (l.addr 2) ++ s.ptr16 l

/-! ### Registers -/

/-- Bits 31 to 16 of a register after a write that does not reach them: `UPPER_BITS` (10_state.md
R41, 93 U2). -/
def upperHalf (old free : BitVec 16) : BitVec 16 :=
  match Config.upperBits with
  | .unspecified => free
  | .preserved => old
  | .zeroed => 0#16

/-- The accumulator at a width (10_state.md R20). -/
def State.readA (s : State) (w : Width) : BitVec w.bits := s.a.setWidth w.bits

/-- X at a width. -/
def State.readX (s : State) (w : Width) : BitVec w.bits := s.x.setWidth w.bits

/-- Y at a width. -/
def State.readY (s : State) (w : Width) : BitVec w.bits := s.y.setWidth w.bits

/-- "Write A at mw" (R41, 41_load_store_transfer.md R170). -/
def State.writeA (s : State) : (w : Width) → BitVec w.bits → State
  | .w8, v =>
    let up := upperHalf (s.a.extractLsb' 16 16) (Config.freeUpperA s.draw)
    { s with a := ((up ++ s.a.extractLsb' 8 8) ++ v : Word32) }
  | .w16, v =>
    { s with a := (upperHalf (s.a.extractLsb' 16 16) (Config.freeUpperA s.draw) ++ v : Word32) }
  | .w32, v => { s with a := v }

/-- "Write X at xw" (R41, R170). -/
def State.writeX (s : State) : (w : Width) → BitVec w.bits → State
  | .w8, v => { s with x := BitVec.setWidth 32 v }
  | .w16, v =>
    { s with x := (upperHalf (s.x.extractLsb' 16 16) (Config.freeUpperX s.draw) ++ v : Word32) }
  | .w32, v => { s with x := v }

/-- "Write Y at xw" (R41, R170). -/
def State.writeY (s : State) : (w : Width) → BitVec w.bits → State
  | .w8, v => { s with y := BitVec.setWidth 32 v }
  | .w16, v =>
    { s with y := (upperHalf (s.y.extractLsb' 16 16) (Config.freeUpperY s.draw) ++ v : Word32) }
  | .w32, v => { s with y := v }

/-- Write A, then N and Z from the value. -/
def State.putA (s : State) (w : Width) (v : BitVec w.bits) : State := (s.writeA w v).setNZ v

/-- Write X, then N and Z from the value. -/
def State.putX (s : State) (w : Width) (v : BitVec w.bits) : State := (s.writeX w v).setNZ v

/-- Write Y, then N and Z from the value. -/
def State.putY (s : State) (w : Width) (v : BitVec w.bits) : State := (s.writeY w v).setNZ v

/-- Write S: in EMU8 its high byte is forced to 01 (R25). -/
def State.writeS (s : State) (v : Word16) : State :=
  { s with sp := if s.emu8 then 0x01#8 ++ v.setWidth 8 else v }

/-- `PC <- (PC + length) mod 65536` (00_scope.md R7, 10_state.md R49). -/
def State.advance (s : State) (len : Nat) : State := { s with pc := s.pc + BitVec.ofNat 16 len }

/-- `PC <- target` (R6). -/
def State.jump (s : State) (target : Word16) : State := { s with pc := target }

/-- `PC <- target; PBR <- bank` (R6). -/
def State.jumpLong (s : State) (bank : Byte) (target : Word16) : State :=
  { s with pc := target, pbr := bank }

/-- `setP(v)`, the one way P is written as a whole (44_stack_status_system.md R317). -/
def State.setP (s : State) (v : Byte) : State :=
  let p := if s.emu8 then withFlag (withFlag v .m true) .x true else v
  { s with
    p := p
    x := if p.getLsbD Flag.x.pos then zeroUpper s.x else s.x
    y := if p.getLsbD Flag.x.pos then zeroUpper s.y else s.y }

/-- The side effects of changing mode, for the mode now in force (10_state.md R39). -/
def State.enterMode (s : State) : State :=
  if s.emu8 then
    { s with
      p := withFlag (withFlag s.p .m true) .x true
      x := zeroUpper s.x
      y := zeroUpper s.y
      sp := 0x01#8 ++ s.sp.setWidth 8 }
  else s

/-! ### The stack -/

/-- S after a push: in EMU8 only `S[7:0]` counts, in page 1 (10_state.md R24, R25). -/
def State.spDown (s : State) : Word16 :=
  if s.emu8 then 0x01#8 ++ (s.sp.setWidth 8 - 1#8) else s.sp - 1#16

/-- S after a pull (R24, R25). -/
def State.spUp (s : State) : Word16 :=
  if s.emu8 then 0x01#8 ++ (s.sp.setWidth 8 + 1#8) else s.sp + 1#16

/-- `push8(v)` (00_scope.md R6). -/
def State.push8 (s : State) (v : Byte) : State :=
  { s.writeByte s.sp.toNat v with sp := s.spDown }

/-- The byte `pull8()` returns (R6). -/
def State.top (s : State) : Byte := s.readByte s.spUp.toNat

/-- The state after `pull8()` (R6). -/
def State.popped (s : State) : State := { s with sp := s.spUp }

/-- `pushN(v, n)`: `n` bytes, the most significant first (44_stack_status_system.md R290). -/
def State.pushN (s : State) (v : Nat) : Nat → State
  | 0 => s
  | n + 1 => (s.push8 (BitVec.ofNat 8 (v / 256 ^ n))).pushN v n

/-- The value `pullN(n)` returns: the first byte pulled is the least significant (R290). -/
def State.pullValue (s : State) : Nat → Nat
  | 0 => 0
  | n + 1 => s.top.toNat + 256 * s.popped.pullValue n

/-- The state after `pullN(n)` (R290). -/
def State.pullN (s : State) : Nat → State
  | 0 => s
  | n + 1 => s.popped.pullN n

/-- One of `n` pushes would wrap `S[7:0]` in EMU8: a push at `S[7:0] = 0x00` (R307). -/
def State.pushWraps (s : State) (n : Nat) : Bool :=
  s.emu8 && decide ((s.sp.setWidth 8).toNat < n)

/-- One of `n` pulls would wrap `S[7:0]` in EMU8: a pull at `S[7:0] = 0xFF` (R307). -/
def State.pullWraps (s : State) (n : Nat) : Bool :=
  s.emu8 && decide (255 < (s.sp.setWidth 8).toNat + n)

/-! ### Taking an interrupt and returning from one -/

/-- The status byte an interrupt pushes: in EMU8 bit 4 is the Break flag, 1 for BRK and COP
(60_exceptions.md R350, 10_state.md R34). -/
def State.framedStatus (s : State) (k : Interrupt) : Byte :=
  if s.emu8 then withFlag s.p .x (decide (k = .brk ∨ k = .cop)) else s.p

/-- Pushes one byte of an interrupt frame (60_exceptions.md R350). -/
def State.pushItem (s : State) (ret : Word16) (status : Byte) : FrameItem → State
  | .bank => s.push8 s.pbr
  | .pcHigh => s.push8 (byteOf ret 1)
  | .pcLow => s.push8 (byteOf ret 0)
  | .status => s.push8 status

/-- Pushes an interrupt frame, first item first (R350 to R353). -/
def State.pushFrame (s : State) (ret : Word16) (status : Byte) : List FrameItem → State
  | [] => s
  | f :: fs => (s.pushItem ret status f).pushFrame ret status fs

/-- TAKING AN INTERRUPT: the interrupt sequence for ABORT-, NMI-, IRQ-, BRK and COP with return
address `ret` (R350). -/
def State.takeInterrupt (s : State) (k : Interrupt) (ret : Word16) : State :=
  let t := s.pushFrame ret (s.framedStatus k) (Config.frame s.mode)
  { t with
    p := withFlag (withFlag s.p .i true) .d false
    pbr := 0x00#8
    pc := t.ptr16 (.bank0 (Config.vector k s.mode))
    waiting := false
    nmiPending := s.nmiPending && !decide (k = .nmi)
    abortPending := s.abortPending && !decide (k = .abort) }

/-- Pulls one byte of an interrupt frame into its register (R356). -/
def State.pullItem (s : State) : FrameItem → State
  | .bank => { s.popped with pbr := s.top }
  | .pcHigh => { s.popped with pc := s.top ++ s.pc.setWidth 8 }
  | .pcLow => { s.popped with pc := s.pc.extractLsb' 8 8 ++ s.top }
  | .status => s.popped.setP s.top

/-- Pulls an interrupt frame, first item first. -/
def State.pullFrame (s : State) : List FrameItem → State
  | [] => s
  | f :: fs => (s.pullItem f).pullFrame fs

/-- THE RETURN: the frame of the mode in force is pulled in the reverse order of its pushes
(44_stack_status_system.md R322, 60_exceptions.md R356). -/
def State.returnFromInterrupt (s : State) : State := s.pullFrame (Config.frame s.mode).reverse

/-! ### Reset -/

/-- P after reset: M, X, D, I are 1, 1, 0, 1 and N, V, Z, C come from `nvzc` (10_state.md R47). -/
def resetStatus (nvzc : BitVec 4) : Byte :=
  (nvzc.extractLsb' 2 2 ++ 0b1101#4) ++ nvzc.extractLsb' 0 2

/-- The reset sequence on a running machine (70_reset_and_hazards.md R390, R392): memory is kept and
every register and flag of the reset table that it does not initialise takes a free value (93 U1).
DESIGN CHOICE, unsafe (log 22): the Instruction Register, which the table does not list, keeps the last
opcode, since R45 and R47 give it no value. -/
def State.resetSequence (s : State) : State :=
  { s with
    a := Config.freeResetA s.draw
    x := (Config.freeResetX s.draw).setWidth 32
    y := (Config.freeResetY s.draw).setWidth 32
    sp := 0x01#8 ++ Config.freeResetS s.draw
    d := 0x0000#16
    dbr := 0x00#8
    pbr := 0x00#8
    pc := s.ptr16 (.bank0 Config.resetVector)
    p := resetStatus (Config.freeResetNVZC s.draw)
    e8 := true
    e16 := true
    waiting := false
    stopped := false
    nmiPending := false
    abortPending := false
    draw := s.draw + 1 }

end Sys2Proof.Machine
end

