-- ==== Sys2Proof/Machine/Operands.lean ====
section
/-! DEFINITION. Every operand form of the spec: where an addressing mode puts its operand, and how an
operand is read and written (spec 40_addressing_modes.md). -/

namespace Sys2Proof.Machine

/-- What an instruction that reads a value takes it from: an immediate or memory (R132 to R147). -/
inductive Source where
  | imm (v : Word32)
  | mem (m : AddrMode)
deriving DecidableEq, Repr

/-- What a read-modify-write instruction works on: A or memory (R148, 42_arith_logic.md R210). -/
inductive Target where
  | acc
  | mem (m : AddrMode)
deriving DecidableEq, Repr

/-- The source an operand names, if it names one (R132 to R147). -/
def sourceOf : Operand → Option Source
  | .immA v | .immX v => some (.imm v)
  | .addr m => some (.mem m)
  | .implied | .stack | .acc | .signature _ | .ignored _ | .imm8 _ => none
  | .absInd _ | .absIndX _ | .absIndLong _ | .rel _ | .relLong _ | .blockMove _ _ => none

/-- The target an operand names, if it names one (R148, R210). -/
def targetOf : Operand → Option Target
  | .acc => some .acc
  | .addr m => some (.mem m)
  | .implied | .stack | .signature _ | .ignored _ | .immA _ | .immX _ | .imm8 _ => none
  | .absInd _ | .absIndX _ | .absIndLong _ | .rel _ | .relLong _ | .blockMove _ _ => none

/-- `X[xw-1:0]` as an index (R158). -/
def State.indexX (s : State) : Nat := (s.readX s.xw).toNat

/-- `Y[xw-1:0]` as an index (R158). -/
def State.indexY (s : State) : Nat := (s.readY s.xw).toNat

/-- `D[7:0] = 0x00` in EMU8: the direct modes of the 6502 stay in one page (R157). -/
def State.directPage (s : State) : Bool := s.emu8 && decide (s.d.setWidth 8 = 0x00#8)

/-- A direct operand or pointer, with an index (R134, R135, R136, R157). -/
def State.directLoc (s : State) (d8 : Byte) (index : Nat) : Loc :=
  if s.directPage then .page (s.d.extractLsb' 8 8) (d8 + BitVec.ofNat 8 index)
  else .bank0 (s.d + d8.setWidth 16 + BitVec.ofNat 16 index)

/-- A direct operand or pointer of the modes that never wrap in a page (R131 (a), R144, R305). -/
def State.directLocFlat (s : State) (d8 : Byte) : Loc := .bank0 (s.d + d8.setWidth 16)

/-- A stack relative operand or pointer (R146). -/
def State.stackLoc (s : State) (d8 : Byte) : Loc := .bank0 (s.sp + d8.setWidth 16)

/-- An address in the data bank plus an index, `mod 2^ADDR_BITS` (R133, R137, 20_memory.md R75). -/
def State.dataLoc (s : State) (off : Word16) (index : Nat) : Loc :=
  .linear ((s.dbr.toNat * 65536 + off.toNat + index) % Config.addrSpace)

/-- A 24-bit address plus an index, `mod 2^ADDR_BITS` (R139, R140). -/
def longLoc (base : Long24) (index : Nat) : Loc :=
  .linear ((base.toNat + index) % Config.addrSpace)

/-- The anomaly of `(d,x)` in EMU8 that the spec leaves open (R157, 93 U6): `D[7:0]` is not 0 and
`d8 + X[7:0]` carries out of 8 bits. -/
def State.pointerAnomaly (s : State) (d8 : Byte) : Bool :=
  s.emu8 && decide (s.d.setWidth 8 ≠ 0x00#8) && decide (255 < d8.toNat + (s.x.setWidth 8).toNat)

/-- The pointer of `(d,x)` (R142); free in the anomaly (93 U6; log 15). -/
def State.pointerIndX (s : State) (d8 : Byte) : Word16 :=
  if s.pointerAnomaly d8 then Config.freePointer s.draw else s.ptr16 (s.directLoc d8 s.indexX)

/-- Where the operand of an addressing mode lies (R133 to R147). -/
def State.locate (s : State) : AddrMode → Loc
  | .abs a => s.dataLoc a 0
  | .absX a => s.dataLoc a s.indexX
  | .absY a => s.dataLoc a s.indexY
  | .long a => longLoc a 0
  | .longX a => longLoc a s.indexX
  | .dir d => s.directLoc d 0
  | .dirX d => s.directLoc d s.indexX
  | .dirY d => s.directLoc d s.indexY
  | .ind d => s.dataLoc (s.ptr16 (s.directLoc d 0)) 0
  | .indX d => s.dataLoc (s.pointerIndX d) 0
  | .indY d => s.dataLoc (s.ptr16 (s.directLoc d 0)) s.indexY
  | .indLong d => longLoc (s.ptr24 (s.directLocFlat d)) 0
  | .indLongY d => longLoc (s.ptr24 (s.directLocFlat d)) s.indexY
  | .sr d => s.stackLoc d
  | .srIndY d => s.dataLoc (s.ptr16 (s.stackLoc d)) s.indexY

/-- `off = (a16 + X[xw-1:0]) mod 65536` in the program bank, where `(a,x)` has its pointer (R154). -/
def State.tableLoc (s : State) (a16 : Word16) : Loc :=
  .program s.pbr (a16 + BitVec.ofNat 16 s.indexX)

/-- The value of a source at a width: the low bytes of the immediate (R132), or `MemRead(EA, w/8)`. -/
def State.sourceValue (s : State) (src : Source) (w : Width) : BitVec w.bits :=
  match src with
  | .imm v => v.setWidth w.bits
  | .mem m => s.readWidth (s.locate m) w

/-- The value of a target at a width (R148, R210). -/
def State.targetValue (s : State) (t : Target) (w : Width) : BitVec w.bits :=
  match t with
  | .acc => s.readA w
  | .mem m => s.readWidth (s.locate m) w

/-- Writes a target at a width (R148, R210). -/
def State.writeTarget (s : State) (t : Target) (w : Width) (v : BitVec w.bits) : State :=
  match t with
  | .acc => s.writeA w v
  | .mem m => s.writeWidth (s.locate m) w v

/-- How many bytes follow the opcode for a source read at a width (30_encoding.md R101, R102). -/
def Source.size (w : Width) : Source → Nat
  | .imm _ => w.bytes
  | .mem m => m.size

/-- How many bytes follow the opcode for a target (R101). -/
def Target.size : Target → Nat
  | .acc => 0
  | .mem m => m.size

end Sys2Proof.Machine
end

