-- ==== Sys2Proof/Machine/Arith.lean ====
section
/-! DEFINITION. ADC, SBC, the compares, and the increments and decrements (spec 42_arith_logic.md R210 to R216,
R221 to R226). -/

namespace Sys2Proof.Machine

/-- ADC (R211, R212). -/
def addA (src : Source) (s : State) : Result :=
  let r := adc s.draw (s.flag .d) (s.readA s.mw) (s.sourceValue src s.mw) (s.flag .c)
  .next (((s.writeA s.mw r.value).setNVZC r).advance (1 + src.size s.mw))

/-- SBC (R213, R212). -/
def subA (src : Source) (s : State) : Result :=
  let r := sbc s.draw (s.flag .d) (s.readA s.mw) (s.sourceValue src s.mw) (s.flag .c)
  .next (((s.writeA s.mw r.value).setNVZC r).advance (1 + src.size s.mw))

/-- CMP, CPX and CPY: a register value of a width against a source (R214). -/
def compareWith (src : Source) (w : Width) (a : BitVec w.bits) (s : State) : Result :=
  .next ((s.setCompare a (s.sourceValue src w)).advance (1 + src.size w))

/-- CMP (R214). -/
def compareA (src : Source) (s : State) : Result := compareWith src s.mw (s.readA s.mw) s

/-- CPX (R215). -/
def compareX (src : Source) (s : State) : Result := compareWith src s.xw (s.readX s.xw) s

/-- CPY (R216). -/
def compareY (src : Source) (s : State) : Result := compareWith src s.xw (s.readY s.xw) s

/-- INC (R221). -/
def increment (t : Target) (s : State) : Result :=
  let r := s.targetValue t s.mw + 1
  .next (((s.writeTarget t s.mw r).setNZ r).advance (1 + t.size))

/-- DEC (R222). -/
def decrement (t : Target) (s : State) : Result :=
  let r := s.targetValue t s.mw - 1
  .next (((s.writeTarget t s.mw r).setNZ r).advance (1 + t.size))

/-- `61` ADC `(d,x)` (R211; mode R142). -/
def execAdcIndX (d8 : Byte) (s : State) : Result := addA (.mem (.indX d8)) s

/-- `63` ADC `d,s` (R211; mode R146). -/
def execAdcSr (d8 : Byte) (s : State) : Result := addA (.mem (.sr d8)) s

/-- `65` ADC `d` (R211; mode R134). -/
def execAdcDir (d8 : Byte) (s : State) : Result := addA (.mem (.dir d8)) s

/-- `67` ADC `[d]` (R211; mode R144). -/
def execAdcIndLong (d8 : Byte) (s : State) : Result := addA (.mem (.indLong d8)) s

/-- `69` ADC `#` (R211; mode R132). -/
def execAdcImm (v : Word32) (s : State) : Result := addA (.imm v) s

/-- `6D` ADC `a` (R211; mode R133). -/
def execAdcAbs (a16 : Word16) (s : State) : Result := addA (.mem (.abs a16)) s

/-- `6F` ADC `al` (R211; mode R139). -/
def execAdcLong (a24 : Long24) (s : State) : Result := addA (.mem (.long a24)) s

/-- `71` ADC `(d),y` (R211; mode R143). -/
def execAdcIndY (d8 : Byte) (s : State) : Result := addA (.mem (.indY d8)) s

/-- `72` ADC `(d)` (R211; mode R141). -/
def execAdcInd (d8 : Byte) (s : State) : Result := addA (.mem (.ind d8)) s

/-- `73` ADC `(d,s),y` (R211; mode R147). -/
def execAdcSrIndY (d8 : Byte) (s : State) : Result := addA (.mem (.srIndY d8)) s

/-- `75` ADC `d,x` (R211; mode R135). -/
def execAdcDirX (d8 : Byte) (s : State) : Result := addA (.mem (.dirX d8)) s

/-- `77` ADC `[d],y` (R211; mode R145). -/
def execAdcIndLongY (d8 : Byte) (s : State) : Result := addA (.mem (.indLongY d8)) s

/-- `79` ADC `a,y` (R211; mode R138). -/
def execAdcAbsY (a16 : Word16) (s : State) : Result := addA (.mem (.absY a16)) s

/-- `7D` ADC `a,x` (R211; mode R137). -/
def execAdcAbsX (a16 : Word16) (s : State) : Result := addA (.mem (.absX a16)) s

/-- `7F` ADC `al,x` (R211; mode R140). -/
def execAdcLongX (a24 : Long24) (s : State) : Result := addA (.mem (.longX a24)) s

/-- `E1` SBC `(d,x)` (R213; mode R142). -/
def execSbcIndX (d8 : Byte) (s : State) : Result := subA (.mem (.indX d8)) s

/-- `E3` SBC `d,s` (R213; mode R146). -/
def execSbcSr (d8 : Byte) (s : State) : Result := subA (.mem (.sr d8)) s

/-- `E5` SBC `d` (R213; mode R134). -/
def execSbcDir (d8 : Byte) (s : State) : Result := subA (.mem (.dir d8)) s

/-- `E7` SBC `[d]` (R213; mode R144). -/
def execSbcIndLong (d8 : Byte) (s : State) : Result := subA (.mem (.indLong d8)) s

/-- `E9` SBC `#` (R213; mode R132). -/
def execSbcImm (v : Word32) (s : State) : Result := subA (.imm v) s

/-- `ED` SBC `a` (R213; mode R133). -/
def execSbcAbs (a16 : Word16) (s : State) : Result := subA (.mem (.abs a16)) s

/-- `EF` SBC `al` (R213; mode R139). -/
def execSbcLong (a24 : Long24) (s : State) : Result := subA (.mem (.long a24)) s

/-- `F1` SBC `(d),y` (R213; mode R143). -/
def execSbcIndY (d8 : Byte) (s : State) : Result := subA (.mem (.indY d8)) s

/-- `F2` SBC `(d)` (R213; mode R141). -/
def execSbcInd (d8 : Byte) (s : State) : Result := subA (.mem (.ind d8)) s

/-- `F3` SBC `(d,s),y` (R213; mode R147). -/
def execSbcSrIndY (d8 : Byte) (s : State) : Result := subA (.mem (.srIndY d8)) s

/-- `F5` SBC `d,x` (R213; mode R135). -/
def execSbcDirX (d8 : Byte) (s : State) : Result := subA (.mem (.dirX d8)) s

/-- `F7` SBC `[d],y` (R213; mode R145). -/
def execSbcIndLongY (d8 : Byte) (s : State) : Result := subA (.mem (.indLongY d8)) s

/-- `F9` SBC `a,y` (R213; mode R138). -/
def execSbcAbsY (a16 : Word16) (s : State) : Result := subA (.mem (.absY a16)) s

/-- `FD` SBC `a,x` (R213; mode R137). -/
def execSbcAbsX (a16 : Word16) (s : State) : Result := subA (.mem (.absX a16)) s

/-- `FF` SBC `al,x` (R213; mode R140). -/
def execSbcLongX (a24 : Long24) (s : State) : Result := subA (.mem (.longX a24)) s

/-- `C1` CMP `(d,x)` (R214; mode R142). -/
def execCmpIndX (d8 : Byte) (s : State) : Result := compareA (.mem (.indX d8)) s

/-- `C3` CMP `d,s` (R214; mode R146). -/
def execCmpSr (d8 : Byte) (s : State) : Result := compareA (.mem (.sr d8)) s

/-- `C5` CMP `d` (R214; mode R134). -/
def execCmpDir (d8 : Byte) (s : State) : Result := compareA (.mem (.dir d8)) s

/-- `C7` CMP `[d]` (R214; mode R144). -/
def execCmpIndLong (d8 : Byte) (s : State) : Result := compareA (.mem (.indLong d8)) s

/-- `C9` CMP `#` (R214; mode R132). -/
def execCmpImm (v : Word32) (s : State) : Result := compareA (.imm v) s

/-- `CD` CMP `a` (R214; mode R133). -/
def execCmpAbs (a16 : Word16) (s : State) : Result := compareA (.mem (.abs a16)) s

/-- `CF` CMP `al` (R214; mode R139). -/
def execCmpLong (a24 : Long24) (s : State) : Result := compareA (.mem (.long a24)) s

/-- `D1` CMP `(d),y` (R214; mode R143). -/
def execCmpIndY (d8 : Byte) (s : State) : Result := compareA (.mem (.indY d8)) s

/-- `D2` CMP `(d)` (R214; mode R141). -/
def execCmpInd (d8 : Byte) (s : State) : Result := compareA (.mem (.ind d8)) s

/-- `D3` CMP `(d,s),y` (R214; mode R147). -/
def execCmpSrIndY (d8 : Byte) (s : State) : Result := compareA (.mem (.srIndY d8)) s

/-- `D5` CMP `d,x` (R214; mode R135). -/
def execCmpDirX (d8 : Byte) (s : State) : Result := compareA (.mem (.dirX d8)) s

/-- `D7` CMP `[d],y` (R214; mode R145). -/
def execCmpIndLongY (d8 : Byte) (s : State) : Result := compareA (.mem (.indLongY d8)) s

/-- `D9` CMP `a,y` (R214; mode R138). -/
def execCmpAbsY (a16 : Word16) (s : State) : Result := compareA (.mem (.absY a16)) s

/-- `DD` CMP `a,x` (R214; mode R137). -/
def execCmpAbsX (a16 : Word16) (s : State) : Result := compareA (.mem (.absX a16)) s

/-- `DF` CMP `al,x` (R214; mode R140). -/
def execCmpLongX (a24 : Long24) (s : State) : Result := compareA (.mem (.longX a24)) s

/-- `E0` CPX `#` (R215; mode R132). -/
def execCpxImm (v : Word32) (s : State) : Result := compareX (.imm v) s

/-- `E4` CPX `d` (R215; mode R134). -/
def execCpxDir (d8 : Byte) (s : State) : Result := compareX (.mem (.dir d8)) s

/-- `EC` CPX `a` (R215; mode R133). -/
def execCpxAbs (a16 : Word16) (s : State) : Result := compareX (.mem (.abs a16)) s

/-- `C0` CPY `#` (R216; mode R132). -/
def execCpyImm (v : Word32) (s : State) : Result := compareY (.imm v) s

/-- `C4` CPY `d` (R216; mode R134). -/
def execCpyDir (d8 : Byte) (s : State) : Result := compareY (.mem (.dir d8)) s

/-- `CC` CPY `a` (R216; mode R133). -/
def execCpyAbs (a16 : Word16) (s : State) : Result := compareY (.mem (.abs a16)) s

/-- `1A` INC `A` (R221; mode R148). -/
def execIncAcc (s : State) : Result := increment .acc s

/-- `E6` INC `d` (R221; mode R134). -/
def execIncDir (d8 : Byte) (s : State) : Result := increment (.mem (.dir d8)) s

/-- `EE` INC `a` (R221; mode R133). -/
def execIncAbs (a16 : Word16) (s : State) : Result := increment (.mem (.abs a16)) s

/-- `F6` INC `d,x` (R221; mode R135). -/
def execIncDirX (d8 : Byte) (s : State) : Result := increment (.mem (.dirX d8)) s

/-- `FE` INC `a,x` (R221; mode R137). -/
def execIncAbsX (a16 : Word16) (s : State) : Result := increment (.mem (.absX a16)) s

/-- `3A` DEC `A` (R222; mode R148). -/
def execDecAcc (s : State) : Result := decrement .acc s

/-- `C6` DEC `d` (R222; mode R134). -/
def execDecDir (d8 : Byte) (s : State) : Result := decrement (.mem (.dir d8)) s

/-- `CE` DEC `a` (R222; mode R133). -/
def execDecAbs (a16 : Word16) (s : State) : Result := decrement (.mem (.abs a16)) s

/-- `D6` DEC `d,x` (R222; mode R135). -/
def execDecDirX (d8 : Byte) (s : State) : Result := decrement (.mem (.dirX d8)) s

/-- `DE` DEC `a,x` (R222; mode R137). -/
def execDecAbsX (a16 : Word16) (s : State) : Result := decrement (.mem (.absX a16)) s

/-- `E8` INX `i` (R223; mode R149). -/
def execInx (s : State) : Result :=
  .next ((s.putX s.xw (s.readX s.xw + 1)).advance 1)

/-- `C8` INY `i` (R224; mode R149). -/
def execIny (s : State) : Result :=
  .next ((s.putY s.xw (s.readY s.xw + 1)).advance 1)

/-- `CA` DEX `i` (R225; mode R149). -/
def execDex (s : State) : Result :=
  .next ((s.putX s.xw (s.readX s.xw - 1)).advance 1)

/-- `88` DEY `i` (R226; mode R149). -/
def execDey (s : State) : Result :=
  .next ((s.putY s.xw (s.readY s.xw - 1)).advance 1)

end Sys2Proof.Machine
end

