-- ==== Sys2Proof/Machine/BlockMove.lean ====
section
/-! DEFINITION. MVN and MVP, one byte a step (spec 44_stack_status_system.md R327, R328,
40_addressing_modes.md R156). -/

namespace Sys2Proof.Machine

/-- The width of the offsets of a block move: 8 if `xw = 8`, else 16 (R327). -/
def State.moveWidth (s : State) : Width := if s.xw = .w8 then .w8 else .w16

/-- One byte of a block move; `delta` is 1 or -1 (R327, R328). -/
def blockMove (delta : Word16) (dst src : Byte) (s : State) : Result :=
  let k := s.moveWidth
  let from' := src.toNat * 65536 + (s.readX k).toNat
  let to' := dst.toNat * 65536 + (s.readY k).toNat
  let count : Word16 := s.a.setWidth 16 - 1#16
  let t := State.writeByte { s with dbr := dst } to' (s.readByte from')
  let u := (t.writeX k (s.readX k + delta.setWidth k.bits)).writeY k (s.readY k + delta.setWidth k.bits)
  let v := u.writeA .w16 count
  .next (if count = 0xFFFF#16 then v.advance 3 else v)

/-- `54` MVN `xyc` (R327; mode R156). -/
def execMvn (dst : Byte) (src : Byte) (s : State) : Result := blockMove 1#16 dst src s

/-- `44` MVP `xyc` (R328; mode R156). -/
def execMvp (dst : Byte) (src : Byte) (s : State) : Result := blockMove 0xFFFF#16 dst src s

end Sys2Proof.Machine
end

