-- ==== Sys2Proof/Machine/Control.lean ====
section
/-! DEFINITION. Branches, jumps, calls and returns (spec 43_control_transfer.md). -/

namespace Sys2Proof.Machine

/-- The common form of the branches (R268, R151). -/
def branch (cond : Bool) (r8 : Byte) (s : State) : Result :=
  let next := s.advance 2
  .next (if cond then next.jump (next.pc + r8.signExtend 16) else next)

/-- `90` BCC `r` (R251; mode R151). -/
def execBcc (r8 : Byte) (s : State) : Result := branch (!s.flag .c) r8 s

/-- `B0` BCS `r` (R252; mode R151). -/
def execBcs (r8 : Byte) (s : State) : Result := branch (s.flag .c) r8 s

/-- `F0` BEQ `r` (R253; mode R151). -/
def execBeq (r8 : Byte) (s : State) : Result := branch (s.flag .z) r8 s

/-- `D0` BNE `r` (R254; mode R151). -/
def execBne (r8 : Byte) (s : State) : Result := branch (!s.flag .z) r8 s

/-- `30` BMI `r` (R255; mode R151). -/
def execBmi (r8 : Byte) (s : State) : Result := branch (s.flag .n) r8 s

/-- `10` BPL `r` (R256; mode R151). -/
def execBpl (r8 : Byte) (s : State) : Result := branch (!s.flag .n) r8 s

/-- `50` BVC `r` (R257; mode R151). -/
def execBvc (r8 : Byte) (s : State) : Result := branch (!s.flag .v) r8 s

/-- `70` BVS `r` (R258; mode R151). -/
def execBvs (r8 : Byte) (s : State) : Result := branch (s.flag .v) r8 s

/-- `80` BRA `r` (R259; mode R151). -/
def execBra (r8 : Byte) (s : State) : Result := branch (true) r8 s

/-- `82` BRL `rl` (R260; mode R152). -/
def execBrl (r16 : Word16) (s : State) : Result := .next (s.jump (s.pc + 3#16 + r16))

/-- `4C` JMP `a` (R261; mode R133). -/
def execJmpAbs (a16 : Word16) (s : State) : Result := .next (s.jump a16)

/-- `6C` JMP `(a)` (R261; mode R153). -/
def execJmpAbsInd (a16 : Word16) (s : State) : Result := .next (s.jump (s.ptr16 (.bank0 a16)))

/-- `7C` JMP `(a,x)` (R261; mode R154). -/
def execJmpAbsIndX (a16 : Word16) (s : State) : Result := .next (s.jump (s.ptr16 (s.tableLoc a16)))

/-- `PBR:PC <- p` (R262). -/
def State.jumpTo24 (s : State) (p : Long24) : State :=
  s.jumpLong (p.extractLsb' 16 8) (p.extractLsb' 0 16)

/-- `5C` JML `al` (R262; mode R139). -/
def execJmlLong (a24 : Long24) (s : State) : Result := .next (s.jumpTo24 a24)

/-- `DC` JML `[a]` (R262; mode R155). -/
def execJmlAbsIndLong (a16 : Word16) (s : State) : Result := .next (s.jumpTo24 (s.ptr24 (.bank0 a16)))

/-- `20` JSR `a` (R263; mode R133). -/
def execJsrAbs (a16 : Word16) (s : State) : Result :=
  .next ((s.pushN (s.pc + 2#16).toNat 2).jump a16)

/-- `FC` JSR `(a,x)` (R263; mode R154). -/
def execJsrAbsIndX (a16 : Word16) (s : State) : Result :=
  if s.pushWraps 2 then .refused .stackPageWrap
  else
    let t := s.pushN (s.pc + 2#16).toNat 2
    .next (t.jump (t.ptr16 (s.tableLoc a16)))

/-- `22` JSL `al` (R264; mode R139). -/
def execJsl (a24 : Long24) (s : State) : Result :=
  if s.pushWraps 3 then .refused .stackPageWrap
  else .next (((s.push8 s.pbr).pushN (s.pc + 3#16).toNat 2).jumpTo24 a24)

/-- `60` RTS `s` (R265; mode R150). -/
def execRts (s : State) : Result :=
  .next ((s.pullN 2).jump (BitVec.ofNat 16 (s.pullValue 2) + 1#16))

/-- `6B` RTL `s` (R266; mode R150). -/
def execRtl (s : State) : Result :=
  if s.pullWraps 3 then .refused .stackPageWrap
  else
    let t := s.pullN 2
    .next (t.popped.jumpLong t.top (BitVec.ofNat 16 (s.pullValue 2) + 1#16))

end Sys2Proof.Machine
end

