-- ==== Sys2Proof/Machine/LoadStore.lean ====
section
/-! DEFINITION. LDA, LDX, LDY, STA, STX, STY and STZ (spec 41_load_store_transfer.md R170 to R177). -/

namespace Sys2Proof.Machine

/-- LDA (R171). -/
def loadA (src : Source) (s : State) : Result :=
  .next ((s.putA s.mw (s.sourceValue src s.mw)).advance (1 + src.size s.mw))

/-- LDX (R172). -/
def loadX (src : Source) (s : State) : Result :=
  .next ((s.putX s.xw (s.sourceValue src s.xw)).advance (1 + src.size s.xw))

/-- LDY (R173). -/
def loadY (src : Source) (s : State) : Result :=
  .next ((s.putY s.xw (s.sourceValue src s.xw)).advance (1 + src.size s.xw))

/-- STA, STX, STY and STZ: a value of a width to memory (R174 to R177). -/
def storeValue (m : AddrMode) (w : Width) (v : BitVec w.bits) (s : State) : Result :=
  .next ((s.writeWidth (s.locate m) w v).advance (1 + m.size))

/-- STA (R174). -/
def storeA (m : AddrMode) (s : State) : Result := storeValue m s.mw (s.readA s.mw) s

/-- STX (R175). -/
def storeX (m : AddrMode) (s : State) : Result := storeValue m s.xw (s.readX s.xw) s

/-- STY (R176). -/
def storeY (m : AddrMode) (s : State) : Result := storeValue m s.xw (s.readY s.xw) s

/-- STZ (R177). -/
def storeZero (m : AddrMode) (s : State) : Result := storeValue m s.mw 0 s

/-- `A1` LDA `(d,x)` (R171; mode R142). -/
def execLdaIndX (d8 : Byte) (s : State) : Result := loadA (.mem (.indX d8)) s

/-- `A3` LDA `d,s` (R171; mode R146). -/
def execLdaSr (d8 : Byte) (s : State) : Result := loadA (.mem (.sr d8)) s

/-- `A5` LDA `d` (R171; mode R134). -/
def execLdaDir (d8 : Byte) (s : State) : Result := loadA (.mem (.dir d8)) s

/-- `A7` LDA `[d]` (R171; mode R144). -/
def execLdaIndLong (d8 : Byte) (s : State) : Result := loadA (.mem (.indLong d8)) s

/-- `A9` LDA `#` (R171; mode R132). -/
def execLdaImm (v : Word32) (s : State) : Result := loadA (.imm v) s

/-- `AD` LDA `a` (R171; mode R133). -/
def execLdaAbs (a16 : Word16) (s : State) : Result := loadA (.mem (.abs a16)) s

/-- `AF` LDA `al` (R171; mode R139). -/
def execLdaLong (a24 : Long24) (s : State) : Result := loadA (.mem (.long a24)) s

/-- `B1` LDA `(d),y` (R171; mode R143). -/
def execLdaIndY (d8 : Byte) (s : State) : Result := loadA (.mem (.indY d8)) s

/-- `B2` LDA `(d)` (R171; mode R141). -/
def execLdaInd (d8 : Byte) (s : State) : Result := loadA (.mem (.ind d8)) s

/-- `B3` LDA `(d,s),y` (R171; mode R147). -/
def execLdaSrIndY (d8 : Byte) (s : State) : Result := loadA (.mem (.srIndY d8)) s

/-- `B5` LDA `d,x` (R171; mode R135). -/
def execLdaDirX (d8 : Byte) (s : State) : Result := loadA (.mem (.dirX d8)) s

/-- `B7` LDA `[d],y` (R171; mode R145). -/
def execLdaIndLongY (d8 : Byte) (s : State) : Result := loadA (.mem (.indLongY d8)) s

/-- `B9` LDA `a,y` (R171; mode R138). -/
def execLdaAbsY (a16 : Word16) (s : State) : Result := loadA (.mem (.absY a16)) s

/-- `BD` LDA `a,x` (R171; mode R137). -/
def execLdaAbsX (a16 : Word16) (s : State) : Result := loadA (.mem (.absX a16)) s

/-- `BF` LDA `al,x` (R171; mode R140). -/
def execLdaLongX (a24 : Long24) (s : State) : Result := loadA (.mem (.longX a24)) s

/-- `A2` LDX `#` (R172; mode R132). -/
def execLdxImm (v : Word32) (s : State) : Result := loadX (.imm v) s

/-- `A6` LDX `d` (R172; mode R134). -/
def execLdxDir (d8 : Byte) (s : State) : Result := loadX (.mem (.dir d8)) s

/-- `AE` LDX `a` (R172; mode R133). -/
def execLdxAbs (a16 : Word16) (s : State) : Result := loadX (.mem (.abs a16)) s

/-- `B6` LDX `d,y` (R172; mode R136). -/
def execLdxDirY (d8 : Byte) (s : State) : Result := loadX (.mem (.dirY d8)) s

/-- `BE` LDX `a,y` (R172; mode R138). -/
def execLdxAbsY (a16 : Word16) (s : State) : Result := loadX (.mem (.absY a16)) s

/-- `A0` LDY `#` (R173; mode R132). -/
def execLdyImm (v : Word32) (s : State) : Result := loadY (.imm v) s

/-- `A4` LDY `d` (R173; mode R134). -/
def execLdyDir (d8 : Byte) (s : State) : Result := loadY (.mem (.dir d8)) s

/-- `AC` LDY `a` (R173; mode R133). -/
def execLdyAbs (a16 : Word16) (s : State) : Result := loadY (.mem (.abs a16)) s

/-- `B4` LDY `d,x` (R173; mode R135). -/
def execLdyDirX (d8 : Byte) (s : State) : Result := loadY (.mem (.dirX d8)) s

/-- `BC` LDY `a,x` (R173; mode R137). -/
def execLdyAbsX (a16 : Word16) (s : State) : Result := loadY (.mem (.absX a16)) s

/-- `81` STA `(d,x)` (R174; mode R142). -/
def execStaIndX (d8 : Byte) (s : State) : Result := storeA (.indX d8) s

/-- `83` STA `d,s` (R174; mode R146). -/
def execStaSr (d8 : Byte) (s : State) : Result := storeA (.sr d8) s

/-- `85` STA `d` (R174; mode R134). -/
def execStaDir (d8 : Byte) (s : State) : Result := storeA (.dir d8) s

/-- `87` STA `[d]` (R174; mode R144). -/
def execStaIndLong (d8 : Byte) (s : State) : Result := storeA (.indLong d8) s

/-- `8D` STA `a` (R174; mode R133). -/
def execStaAbs (a16 : Word16) (s : State) : Result := storeA (.abs a16) s

/-- `8F` STA `al` (R174; mode R139). -/
def execStaLong (a24 : Long24) (s : State) : Result := storeA (.long a24) s

/-- `91` STA `(d),y` (R174; mode R143). -/
def execStaIndY (d8 : Byte) (s : State) : Result := storeA (.indY d8) s

/-- `92` STA `(d)` (R174; mode R141). -/
def execStaInd (d8 : Byte) (s : State) : Result := storeA (.ind d8) s

/-- `93` STA `(d,s),y` (R174; mode R147). -/
def execStaSrIndY (d8 : Byte) (s : State) : Result := storeA (.srIndY d8) s

/-- `95` STA `d,x` (R174; mode R135). -/
def execStaDirX (d8 : Byte) (s : State) : Result := storeA (.dirX d8) s

/-- `97` STA `[d],y` (R174; mode R145). -/
def execStaIndLongY (d8 : Byte) (s : State) : Result := storeA (.indLongY d8) s

/-- `99` STA `a,y` (R174; mode R138). -/
def execStaAbsY (a16 : Word16) (s : State) : Result := storeA (.absY a16) s

/-- `9D` STA `a,x` (R174; mode R137). -/
def execStaAbsX (a16 : Word16) (s : State) : Result := storeA (.absX a16) s

/-- `9F` STA `al,x` (R174; mode R140). -/
def execStaLongX (a24 : Long24) (s : State) : Result := storeA (.longX a24) s

/-- `86` STX `d` (R175; mode R134). -/
def execStxDir (d8 : Byte) (s : State) : Result := storeX (.dir d8) s

/-- `8E` STX `a` (R175; mode R133). -/
def execStxAbs (a16 : Word16) (s : State) : Result := storeX (.abs a16) s

/-- `96` STX `d,y` (R175; mode R136). -/
def execStxDirY (d8 : Byte) (s : State) : Result := storeX (.dirY d8) s

/-- `84` STY `d` (R176; mode R134). -/
def execStyDir (d8 : Byte) (s : State) : Result := storeY (.dir d8) s

/-- `8C` STY `a` (R176; mode R133). -/
def execStyAbs (a16 : Word16) (s : State) : Result := storeY (.abs a16) s

/-- `94` STY `d,x` (R176; mode R135). -/
def execStyDirX (d8 : Byte) (s : State) : Result := storeY (.dirX d8) s

/-- `64` STZ `d` (R177; mode R134). -/
def execStzDir (d8 : Byte) (s : State) : Result := storeZero (.dir d8) s

/-- `74` STZ `d,x` (R177; mode R135). -/
def execStzDirX (d8 : Byte) (s : State) : Result := storeZero (.dirX d8) s

/-- `9C` STZ `a` (R177; mode R133). -/
def execStzAbs (a16 : Word16) (s : State) : Result := storeZero (.abs a16) s

/-- `9E` STZ `a,x` (R177; mode R137). -/
def execStzAbsX (a16 : Word16) (s : State) : Result := storeZero (.absX a16) s

end Sys2Proof.Machine
end

