-- ==== Sys2Proof/Machine/Logic.lean ====
section
/-! DEFINITION. AND, ORA, EOR, BIT, TSB and TRB (spec 42_arith_logic.md R217 to R220, R231, R232). -/

namespace Sys2Proof.Machine

/-- AND (R217). -/
def andA (src : Source) (s : State) : Result :=
  .next ((s.putA s.mw (s.readA s.mw &&& s.sourceValue src s.mw)).advance (1 + src.size s.mw))

/-- ORA (R218). -/
def orA (src : Source) (s : State) : Result :=
  .next ((s.putA s.mw (s.readA s.mw ||| s.sourceValue src s.mw)).advance (1 + src.size s.mw))

/-- EOR (R219). -/
def xorA (src : Source) (s : State) : Result :=
  .next ((s.putA s.mw (s.readA s.mw ^^^ s.sourceValue src s.mw)).advance (1 + src.size s.mw))

/-- `P.Z <- ((a AND m) == 0)` (R220, R231, R232). -/
def State.setBitZ (s : State) {n : Nat} (a m : BitVec n) : State :=
  s.setFlag .z (a &&& m == 0#n)

/-- BIT immediate: Z alone (R220). -/
def bitImmediate (v : Word32) (s : State) : Result :=
  let m := s.sourceValue (.imm v) s.mw
  .next ((s.setBitZ (s.readA s.mw) m).advance (1 + Source.size s.mw (.imm v)))

/-- BIT on memory: also N and V, bits `w-1` and `w-2` of the operand (R220). -/
def bitMemory (mode : AddrMode) (s : State) : Result :=
  let m := s.sourceValue (.mem mode) s.mw
  let t := (s.setBitZ (s.readA s.mw) m).setFlag .n (m.getLsbD (s.mw.bits - 1))
  .next ((t.setFlag .v (m.getLsbD (s.mw.bits - 2))).advance (1 + mode.size))

/-- TSB (R231). -/
def testAndSet (mode : AddrMode) (s : State) : Result :=
  let a := s.readA s.mw
  let m := s.readWidth (s.locate mode) s.mw
  .next (((s.writeWidth (s.locate mode) s.mw (m ||| a)).setBitZ a m).advance (1 + mode.size))

/-- TRB (R232). -/
def testAndReset (mode : AddrMode) (s : State) : Result :=
  let a := s.readA s.mw
  let m := s.readWidth (s.locate mode) s.mw
  .next (((s.writeWidth (s.locate mode) s.mw (m &&& ~~~a)).setBitZ a m).advance (1 + mode.size))

/-- `21` AND `(d,x)` (R217; mode R142). -/
def execAndIndX (d8 : Byte) (s : State) : Result := andA (.mem (.indX d8)) s

/-- `23` AND `d,s` (R217; mode R146). -/
def execAndSr (d8 : Byte) (s : State) : Result := andA (.mem (.sr d8)) s

/-- `25` AND `d` (R217; mode R134). -/
def execAndDir (d8 : Byte) (s : State) : Result := andA (.mem (.dir d8)) s

/-- `27` AND `[d]` (R217; mode R144). -/
def execAndIndLong (d8 : Byte) (s : State) : Result := andA (.mem (.indLong d8)) s

/-- `29` AND `#` (R217; mode R132). -/
def execAndImm (v : Word32) (s : State) : Result := andA (.imm v) s

/-- `2D` AND `a` (R217; mode R133). -/
def execAndAbs (a16 : Word16) (s : State) : Result := andA (.mem (.abs a16)) s

/-- `2F` AND `al` (R217; mode R139). -/
def execAndLong (a24 : Long24) (s : State) : Result := andA (.mem (.long a24)) s

/-- `31` AND `(d),y` (R217; mode R143). -/
def execAndIndY (d8 : Byte) (s : State) : Result := andA (.mem (.indY d8)) s

/-- `32` AND `(d)` (R217; mode R141). -/
def execAndInd (d8 : Byte) (s : State) : Result := andA (.mem (.ind d8)) s

/-- `33` AND `(d,s),y` (R217; mode R147). -/
def execAndSrIndY (d8 : Byte) (s : State) : Result := andA (.mem (.srIndY d8)) s

/-- `35` AND `d,x` (R217; mode R135). -/
def execAndDirX (d8 : Byte) (s : State) : Result := andA (.mem (.dirX d8)) s

/-- `37` AND `[d],y` (R217; mode R145). -/
def execAndIndLongY (d8 : Byte) (s : State) : Result := andA (.mem (.indLongY d8)) s

/-- `39` AND `a,y` (R217; mode R138). -/
def execAndAbsY (a16 : Word16) (s : State) : Result := andA (.mem (.absY a16)) s

/-- `3D` AND `a,x` (R217; mode R137). -/
def execAndAbsX (a16 : Word16) (s : State) : Result := andA (.mem (.absX a16)) s

/-- `3F` AND `al,x` (R217; mode R140). -/
def execAndLongX (a24 : Long24) (s : State) : Result := andA (.mem (.longX a24)) s

/-- `01` ORA `(d,x)` (R218; mode R142). -/
def execOraIndX (d8 : Byte) (s : State) : Result := orA (.mem (.indX d8)) s

/-- `03` ORA `d,s` (R218; mode R146). -/
def execOraSr (d8 : Byte) (s : State) : Result := orA (.mem (.sr d8)) s

/-- `05` ORA `d` (R218; mode R134). -/
def execOraDir (d8 : Byte) (s : State) : Result := orA (.mem (.dir d8)) s

/-- `07` ORA `[d]` (R218; mode R144). -/
def execOraIndLong (d8 : Byte) (s : State) : Result := orA (.mem (.indLong d8)) s

/-- `09` ORA `#` (R218; mode R132). -/
def execOraImm (v : Word32) (s : State) : Result := orA (.imm v) s

/-- `0D` ORA `a` (R218; mode R133). -/
def execOraAbs (a16 : Word16) (s : State) : Result := orA (.mem (.abs a16)) s

/-- `0F` ORA `al` (R218; mode R139). -/
def execOraLong (a24 : Long24) (s : State) : Result := orA (.mem (.long a24)) s

/-- `11` ORA `(d),y` (R218; mode R143). -/
def execOraIndY (d8 : Byte) (s : State) : Result := orA (.mem (.indY d8)) s

/-- `12` ORA `(d)` (R218; mode R141). -/
def execOraInd (d8 : Byte) (s : State) : Result := orA (.mem (.ind d8)) s

/-- `13` ORA `(d,s),y` (R218; mode R147). -/
def execOraSrIndY (d8 : Byte) (s : State) : Result := orA (.mem (.srIndY d8)) s

/-- `15` ORA `d,x` (R218; mode R135). -/
def execOraDirX (d8 : Byte) (s : State) : Result := orA (.mem (.dirX d8)) s

/-- `17` ORA `[d],y` (R218; mode R145). -/
def execOraIndLongY (d8 : Byte) (s : State) : Result := orA (.mem (.indLongY d8)) s

/-- `19` ORA `a,y` (R218; mode R138). -/
def execOraAbsY (a16 : Word16) (s : State) : Result := orA (.mem (.absY a16)) s

/-- `1D` ORA `a,x` (R218; mode R137). -/
def execOraAbsX (a16 : Word16) (s : State) : Result := orA (.mem (.absX a16)) s

/-- `1F` ORA `al,x` (R218; mode R140). -/
def execOraLongX (a24 : Long24) (s : State) : Result := orA (.mem (.longX a24)) s

/-- `41` EOR `(d,x)` (R219; mode R142). -/
def execEorIndX (d8 : Byte) (s : State) : Result := xorA (.mem (.indX d8)) s

/-- `43` EOR `d,s` (R219; mode R146). -/
def execEorSr (d8 : Byte) (s : State) : Result := xorA (.mem (.sr d8)) s

/-- `45` EOR `d` (R219; mode R134). -/
def execEorDir (d8 : Byte) (s : State) : Result := xorA (.mem (.dir d8)) s

/-- `47` EOR `[d]` (R219; mode R144). -/
def execEorIndLong (d8 : Byte) (s : State) : Result := xorA (.mem (.indLong d8)) s

/-- `49` EOR `#` (R219; mode R132). -/
def execEorImm (v : Word32) (s : State) : Result := xorA (.imm v) s

/-- `4D` EOR `a` (R219; mode R133). -/
def execEorAbs (a16 : Word16) (s : State) : Result := xorA (.mem (.abs a16)) s

/-- `4F` EOR `al` (R219; mode R139). -/
def execEorLong (a24 : Long24) (s : State) : Result := xorA (.mem (.long a24)) s

/-- `51` EOR `(d),y` (R219; mode R143). -/
def execEorIndY (d8 : Byte) (s : State) : Result := xorA (.mem (.indY d8)) s

/-- `52` EOR `(d)` (R219; mode R141). -/
def execEorInd (d8 : Byte) (s : State) : Result := xorA (.mem (.ind d8)) s

/-- `53` EOR `(d,s),y` (R219; mode R147). -/
def execEorSrIndY (d8 : Byte) (s : State) : Result := xorA (.mem (.srIndY d8)) s

/-- `55` EOR `d,x` (R219; mode R135). -/
def execEorDirX (d8 : Byte) (s : State) : Result := xorA (.mem (.dirX d8)) s

/-- `57` EOR `[d],y` (R219; mode R145). -/
def execEorIndLongY (d8 : Byte) (s : State) : Result := xorA (.mem (.indLongY d8)) s

/-- `59` EOR `a,y` (R219; mode R138). -/
def execEorAbsY (a16 : Word16) (s : State) : Result := xorA (.mem (.absY a16)) s

/-- `5D` EOR `a,x` (R219; mode R137). -/
def execEorAbsX (a16 : Word16) (s : State) : Result := xorA (.mem (.absX a16)) s

/-- `5F` EOR `al,x` (R219; mode R140). -/
def execEorLongX (a24 : Long24) (s : State) : Result := xorA (.mem (.longX a24)) s

/-- `24` BIT `d` (R220; mode R134). -/
def execBitDir (d8 : Byte) (s : State) : Result := bitMemory (.dir d8) s

/-- `2C` BIT `a` (R220; mode R133). -/
def execBitAbs (a16 : Word16) (s : State) : Result := bitMemory (.abs a16) s

/-- `34` BIT `d,x` (R220; mode R135). -/
def execBitDirX (d8 : Byte) (s : State) : Result := bitMemory (.dirX d8) s

/-- `3C` BIT `a,x` (R220; mode R137). -/
def execBitAbsX (a16 : Word16) (s : State) : Result := bitMemory (.absX a16) s

/-- `89` BIT `#` (R220; mode R132). -/
def execBitImm (v : Word32) (s : State) : Result := bitImmediate v s

/-- `04` TSB `d` (R231; mode R134). -/
def execTsbDir (d8 : Byte) (s : State) : Result := testAndSet (.dir d8) s

/-- `0C` TSB `a` (R231; mode R133). -/
def execTsbAbs (a16 : Word16) (s : State) : Result := testAndSet (.abs a16) s

/-- `14` TRB `d` (R232; mode R134). -/
def execTrbDir (d8 : Byte) (s : State) : Result := testAndReset (.dir d8) s

/-- `1C` TRB `a` (R232; mode R133). -/
def execTrbAbs (a16 : Word16) (s : State) : Result := testAndReset (.abs a16) s

end Sys2Proof.Machine
end

