-- ==== Sys2Proof/Machine/Shift.lean ====
section
/-! DEFINITION. ASL, LSR, ROL and ROR (spec 42_arith_logic.md R227 to R230). -/

namespace Sys2Proof.Machine

/-- The end of a shift: C from the bit shifted out, N and Z from the result, which is written back (R227). -/
def shiftWriteBack (t : Target) (w : Width) (r : ShiftResult w.bits) (s : State) : State :=
  (((s.writeTarget t w r.value).setNZ r.value).setFlag .c r.carry).advance (1 + t.size)

/-- ASL (R227). -/
def aslTarget (t : Target) (s : State) : Result :=
  let r := shiftLeft (s.targetValue t s.mw)
  .next (shiftWriteBack t s.mw r s)

/-- LSR (R228). -/
def lsrTarget (t : Target) (s : State) : Result :=
  let r := shiftRight (s.targetValue t s.mw)
  .next (shiftWriteBack t s.mw r s)

/-- ROL (R229). -/
def rolTarget (t : Target) (s : State) : Result :=
  let r := rotateLeft (s.flag .c) (s.targetValue t s.mw)
  .next (shiftWriteBack t s.mw r s)

/-- ROR (R230). -/
def rorTarget (t : Target) (s : State) : Result :=
  let r := rotateRight (s.flag .c) (s.targetValue t s.mw)
  .next (shiftWriteBack t s.mw r s)

/-- `06` ASL `d` (R227; mode R134). -/
def execAslDir (d8 : Byte) (s : State) : Result := aslTarget (.mem (.dir d8)) s

/-- `0A` ASL `A` (R227; mode R148). -/
def execAslAcc (s : State) : Result := aslTarget .acc s

/-- `0E` ASL `a` (R227; mode R133). -/
def execAslAbs (a16 : Word16) (s : State) : Result := aslTarget (.mem (.abs a16)) s

/-- `16` ASL `d,x` (R227; mode R135). -/
def execAslDirX (d8 : Byte) (s : State) : Result := aslTarget (.mem (.dirX d8)) s

/-- `1E` ASL `a,x` (R227; mode R137). -/
def execAslAbsX (a16 : Word16) (s : State) : Result := aslTarget (.mem (.absX a16)) s

/-- `46` LSR `d` (R228; mode R134). -/
def execLsrDir (d8 : Byte) (s : State) : Result := lsrTarget (.mem (.dir d8)) s

/-- `4A` LSR `A` (R228; mode R148). -/
def execLsrAcc (s : State) : Result := lsrTarget .acc s

/-- `4E` LSR `a` (R228; mode R133). -/
def execLsrAbs (a16 : Word16) (s : State) : Result := lsrTarget (.mem (.abs a16)) s

/-- `56` LSR `d,x` (R228; mode R135). -/
def execLsrDirX (d8 : Byte) (s : State) : Result := lsrTarget (.mem (.dirX d8)) s

/-- `5E` LSR `a,x` (R228; mode R137). -/
def execLsrAbsX (a16 : Word16) (s : State) : Result := lsrTarget (.mem (.absX a16)) s

/-- `26` ROL `d` (R229; mode R134). -/
def execRolDir (d8 : Byte) (s : State) : Result := rolTarget (.mem (.dir d8)) s

/-- `2A` ROL `A` (R229; mode R148). -/
def execRolAcc (s : State) : Result := rolTarget .acc s

/-- `2E` ROL `a` (R229; mode R133). -/
def execRolAbs (a16 : Word16) (s : State) : Result := rolTarget (.mem (.abs a16)) s

/-- `36` ROL `d,x` (R229; mode R135). -/
def execRolDirX (d8 : Byte) (s : State) : Result := rolTarget (.mem (.dirX d8)) s

/-- `3E` ROL `a,x` (R229; mode R137). -/
def execRolAbsX (a16 : Word16) (s : State) : Result := rolTarget (.mem (.absX a16)) s

/-- `66` ROR `d` (R230; mode R134). -/
def execRorDir (d8 : Byte) (s : State) : Result := rorTarget (.mem (.dir d8)) s

/-- `6A` ROR `A` (R230; mode R148). -/
def execRorAcc (s : State) : Result := rorTarget .acc s

/-- `6E` ROR `a` (R230; mode R133). -/
def execRorAbs (a16 : Word16) (s : State) : Result := rorTarget (.mem (.abs a16)) s

/-- `76` ROR `d,x` (R230; mode R135). -/
def execRorDirX (d8 : Byte) (s : State) : Result := rorTarget (.mem (.dirX d8)) s

/-- `7E` ROR `a,x` (R230; mode R137). -/
def execRorAbsX (a16 : Word16) (s : State) : Result := rorTarget (.mem (.absX a16)) s

end Sys2Proof.Machine
end

