-- ==== Sys2Proof/Machine/Stack.lean ====
section
/-! DEFINITION. Pushes and pulls (spec 44_stack_status_system.md R290 to R307). -/

namespace Sys2Proof.Machine

/-- PEA, PEI, PER and PHD: two bytes pushed, with the condition of R307. -/
def pushWord (v : Word16) (len : Nat) (s : State) : Result :=
  if s.pushWraps 2 then .refused .stackPageWrap else .next ((s.pushN v.toNat 2).advance len)

/-- `48` PHA `s` (R291; mode R150). -/
def execPha (s : State) : Result :=
  .next ((s.pushN (s.readA s.mw).toNat s.mw.bytes).advance 1)

/-- `DA` PHX `s` (R292; mode R150). -/
def execPhx (s : State) : Result :=
  .next ((s.pushN (s.readX s.xw).toNat s.xw.bytes).advance 1)

/-- `5A` PHY `s` (R293; mode R150). -/
def execPhy (s : State) : Result :=
  .next ((s.pushN (s.readY s.xw).toNat s.xw.bytes).advance 1)

/-- `08` PHP `s` (R294; mode R150). -/
def execPhp (s : State) : Result := .next ((s.push8 s.p).advance 1)

/-- `8B` PHB `s` (R295; mode R150). -/
def execPhb (s : State) : Result := .next ((s.push8 s.dbr).advance 1)

/-- `0B` PHD `s` (R296; mode R150). -/
def execPhd (s : State) : Result := pushWord s.d 1 s

/-- `4B` PHK `s` (R297; mode R150). -/
def execPhk (s : State) : Result := .next ((s.push8 s.pbr).advance 1)

/-- `68` PLA `s` (R298; mode R150). -/
def execPla (s : State) : Result :=
  let v := BitVec.ofNat s.mw.bits (s.pullValue s.mw.bytes)
  .next (((s.pullN s.mw.bytes).putA s.mw v).advance 1)

/-- `FA` PLX `s` (R299; mode R150). -/
def execPlx (s : State) : Result :=
  let v := BitVec.ofNat s.xw.bits (s.pullValue s.xw.bytes)
  .next (((s.pullN s.xw.bytes).putX s.xw v).advance 1)

/-- `7A` PLY `s` (R300; mode R150). -/
def execPly (s : State) : Result :=
  let v := BitVec.ofNat s.xw.bits (s.pullValue s.xw.bytes)
  .next (((s.pullN s.xw.bytes).putY s.xw v).advance 1)

/-- `28` PLP `s` (R301; mode R150). -/
def execPlp (s : State) : Result := .next ((s.popped.setP s.top).advance 1)

/-- `AB` PLB `s` (R302; mode R150). -/
def execPlb (s : State) : Result :=
  if s.pullWraps 1 then .refused .stackPageWrap
  else .next ((State.setNZ { s.popped with dbr := s.top } s.top).advance 1)

/-- `2B` PLD `s` (R303; mode R150). -/
def execPld (s : State) : Result :=
  if s.pullWraps 2 then .refused .stackPageWrap
  else
    let v := BitVec.ofNat 16 (s.pullValue 2)
    .next ((State.setNZ { s.pullN 2 with d := v } v).advance 1)

/-- `F4` PEA `a` (R304; mode R133). -/
def execPea (a16 : Word16) (s : State) : Result := pushWord a16 3 s

/-- `D4` PEI `(d)` (R305; mode R141). -/
def execPei (d8 : Byte) (s : State) : Result := pushWord (s.ptr16 (s.directLocFlat d8)) 2 s

/-- `62` PER `rl` (R306; mode R152). -/
def execPer (r16 : Word16) (s : State) : Result := pushWord (s.pc + 3#16 + r16) 3 s

end Sys2Proof.Machine
end

