-- ==== Sys2Proof/Machine/Status.lean ====
section
/-! DEFINITION. The flag instructions, REP, SEP and the mode switch (spec 44_stack_status_system.md R308 to
R319). -/

namespace Sys2Proof.Machine

/-- `18` CLC `i` (R308; mode R149). -/
def execClc (s : State) : Result := .next ((s.setFlag .c false).advance 1)

/-- `38` SEC `i` (R309; mode R149). -/
def execSec (s : State) : Result := .next ((s.setFlag .c true).advance 1)

/-- `D8` CLD `i` (R310; mode R149). -/
def execCld (s : State) : Result := .next ((s.setFlag .d false).advance 1)

/-- `F8` SED `i` (R311; mode R149). -/
def execSed (s : State) : Result := .next ((s.setFlag .d true).advance 1)

/-- `58` CLI `i` (R312; mode R149). -/
def execCli (s : State) : Result := .next ((s.setFlag .i false).advance 1)

/-- `78` SEI `i` (R313; mode R149). -/
def execSei (s : State) : Result := .next ((s.setFlag .i true).advance 1)

/-- `B8` CLV `i` (R314; mode R149). -/
def execClv (s : State) : Result := .next ((s.setFlag .v false).advance 1)

/-- `C2` REP `#` (R315; mode R132). -/
def execRep (m8 : Byte) (s : State) : Result := .next ((s.setP (s.p &&& ~~~m8)).advance 2)

/-- `E2` SEP `#` (R316; mode R132). -/
def execSep (m8 : Byte) (s : State) : Result := .next ((s.setP (s.p ||| m8)).advance 2)

/-- `FB` XCE `i` (R318; mode R149). -/
def execXce (s : State) : Result :=
  let t := State.setFlag { s with e8 := s.flag .c } .c s.e8
  .next (t.enterMode.advance 1)

/-- `42` XFE `i` (R319; mode R149). -/
def execXfe (s : State) : Result :=
  let t := { s with e8 := s.flag .c, e16 := s.flag .v }
  .next (((t.setFlag .c s.e8).setFlag .v s.e16).enterMode.advance 1)

end Sys2Proof.Machine
end

