-- ==== Sys2Proof/Machine/System.lean ====
section
/-! DEFINITION. The software interrupts, the return, wait, stop and the no-operations
(spec 44_stack_status_system.md R320 to R326). -/

namespace Sys2Proof.Machine

/-- `00` BRK `s` (R320; mode R150). -/
def execBrk (_sig : Byte) (s : State) : Result := .next (s.takeInterrupt .brk (s.pc + 2#16))

/-- `02` COP `s` (R321; mode R150). -/
def execCop (_sig : Byte) (s : State) : Result := .next (s.takeInterrupt .cop (s.pc + 2#16))

/-- `40` RTI `s` (R322; mode R150). -/
def execRti (s : State) : Result := .next s.returnFromInterrupt

/-- `CB` WAI `i` (R323; mode R149). -/
def execWai (s : State) : Result :=
  .next (State.advance { s with waiting := true } 1)

/-- `DB` STP `i` (R324; mode R149). -/
def execStp (s : State) : Result :=
  .next (State.advance { s with stopped := true } 1)

/-- `EA` NOP `i` (R325; mode R149). -/
def execNop (s : State) : Result := .next (s.advance 1)

/-- `42` WDM `i` (R326; mode R149). -/
def execWdm (_skip : Byte) (s : State) : Result := .next (s.advance 2)

end Sys2Proof.Machine
end

