-- ==== Sys2Proof/Machine/Transfer.lean ====
section
/-! DEFINITION. The register transfers and XBA (spec 41_load_store_transfer.md R178 to R190). -/

namespace Sys2Proof.Machine

/-- `AA` TAX `i` (R178; mode R149). -/
def execTax (s : State) : Result :=
  .next ((s.putX s.xw (s.a.setWidth s.xw.bits)).advance 1)

/-- `A8` TAY `i` (R179; mode R149). -/
def execTay (s : State) : Result :=
  .next ((s.putY s.xw (s.a.setWidth s.xw.bits)).advance 1)

/-- `8A` TXA `i` (R180; mode R149). -/
def execTxa (s : State) : Result :=
  .next ((s.putA s.mw (s.x.setWidth s.mw.bits)).advance 1)

/-- `98` TYA `i` (R181; mode R149). -/
def execTya (s : State) : Result :=
  .next ((s.putA s.mw (s.y.setWidth s.mw.bits)).advance 1)

/-- `9B` TXY `i` (R182; mode R149). -/
def execTxy (s : State) : Result :=
  .next ((s.putY s.xw (s.readX s.xw)).advance 1)

/-- `BB` TYX `i` (R183; mode R149). -/
def execTyx (s : State) : Result :=
  .next ((s.putX s.xw (s.readY s.xw)).advance 1)

/-- `BA` TSX `i` (R184; mode R149). -/
def execTsx (s : State) : Result :=
  .next ((s.putX s.xw (s.sp.setWidth s.xw.bits)).advance 1)

/-- `9A` TXS `i` (R185; mode R149). -/
def execTxs (s : State) : Result :=
  .next ((s.writeS (s.x.setWidth 16)).advance 1)

/-- `5B` TCD `i` (R186; mode R149). -/
def execTcd (s : State) : Result :=
  .next ((State.setNZ { s with d := s.a.setWidth 16 } (s.a.setWidth 16)).advance 1)

/-- `7B` TDC `i` (R187; mode R149). -/
def execTdc (s : State) : Result := .next ((s.putA .w16 s.d).advance 1)

/-- `1B` TCS `i` (R188; mode R149). -/
def execTcs (s : State) : Result :=
  .next ((s.writeS (s.a.setWidth 16)).advance 1)

/-- `3B` TSC `i` (R189; mode R149). -/
def execTsc (s : State) : Result := .next ((s.putA .w16 s.sp).advance 1)

/-- `EB` XBA `i` (R190; mode R149). -/
def execXba (s : State) : Result :=
  .next (((s.writeA .w16 (byteOf s.a 0 ++ byteOf s.a 1 : Word16)).setNZ (byteOf s.a 1)).advance 1)

end Sys2Proof.Machine
end

