-- ==== Sys2Proof/Machine/Dispatch.lean ====
section
/-! DEFINITION. One arm for each instruction. -/

namespace Sys2Proof.Machine

def exec (i : Instr) (s : State) : Host.Outcome State Fault Refusal :=
  match i with
  | .brk sig => Sys2Proof.Machine.execBrk sig s
  | .oraIndX d8 => Sys2Proof.Machine.execOraIndX d8 s
  | .cop sig => Sys2Proof.Machine.execCop sig s
  | .oraSr d8 => Sys2Proof.Machine.execOraSr d8 s
  | .tsbDir d8 => Sys2Proof.Machine.execTsbDir d8 s
  | .oraDir d8 => Sys2Proof.Machine.execOraDir d8 s
  | .aslDir d8 => Sys2Proof.Machine.execAslDir d8 s
  | .oraIndLong d8 => Sys2Proof.Machine.execOraIndLong d8 s
  | .oraImm v => Sys2Proof.Machine.execOraImm v s
  | .tsbAbs a16 => Sys2Proof.Machine.execTsbAbs a16 s
  | .oraAbs a16 => Sys2Proof.Machine.execOraAbs a16 s
  | .aslAbs a16 => Sys2Proof.Machine.execAslAbs a16 s
  | .oraLong a24 => Sys2Proof.Machine.execOraLong a24 s
  | .bpl r8 => Sys2Proof.Machine.execBpl r8 s
  | .oraIndY d8 => Sys2Proof.Machine.execOraIndY d8 s
  | .oraInd d8 => Sys2Proof.Machine.execOraInd d8 s
  | .oraSrIndY d8 => Sys2Proof.Machine.execOraSrIndY d8 s
  | .trbDir d8 => Sys2Proof.Machine.execTrbDir d8 s
  | .oraDirX d8 => Sys2Proof.Machine.execOraDirX d8 s
  | .aslDirX d8 => Sys2Proof.Machine.execAslDirX d8 s
  | .oraIndLongY d8 => Sys2Proof.Machine.execOraIndLongY d8 s
  | .oraAbsY a16 => Sys2Proof.Machine.execOraAbsY a16 s
  | .trbAbs a16 => Sys2Proof.Machine.execTrbAbs a16 s
  | .oraAbsX a16 => Sys2Proof.Machine.execOraAbsX a16 s
  | .aslAbsX a16 => Sys2Proof.Machine.execAslAbsX a16 s
  | .oraLongX a24 => Sys2Proof.Machine.execOraLongX a24 s
  | .jsrAbs a16 => Sys2Proof.Machine.execJsrAbs a16 s
  | .andIndX d8 => Sys2Proof.Machine.execAndIndX d8 s
  | .jsl a24 => Sys2Proof.Machine.execJsl a24 s
  | .andSr d8 => Sys2Proof.Machine.execAndSr d8 s
  | .bitDir d8 => Sys2Proof.Machine.execBitDir d8 s
  | .andDir d8 => Sys2Proof.Machine.execAndDir d8 s
  | .rolDir d8 => Sys2Proof.Machine.execRolDir d8 s
  | .andIndLong d8 => Sys2Proof.Machine.execAndIndLong d8 s
  | .andImm v => Sys2Proof.Machine.execAndImm v s
  | .bitAbs a16 => Sys2Proof.Machine.execBitAbs a16 s
  | .andAbs a16 => Sys2Proof.Machine.execAndAbs a16 s
  | .rolAbs a16 => Sys2Proof.Machine.execRolAbs a16 s
  | .andLong a24 => Sys2Proof.Machine.execAndLong a24 s
  | .bmi r8 => Sys2Proof.Machine.execBmi r8 s
  | .andIndY d8 => Sys2Proof.Machine.execAndIndY d8 s
  | .andInd d8 => Sys2Proof.Machine.execAndInd d8 s
  | .andSrIndY d8 => Sys2Proof.Machine.execAndSrIndY d8 s
  | .bitDirX d8 => Sys2Proof.Machine.execBitDirX d8 s
  | .andDirX d8 => Sys2Proof.Machine.execAndDirX d8 s
  | .rolDirX d8 => Sys2Proof.Machine.execRolDirX d8 s
  | .andIndLongY d8 => Sys2Proof.Machine.execAndIndLongY d8 s
  | .andAbsY a16 => Sys2Proof.Machine.execAndAbsY a16 s
  | .bitAbsX a16 => Sys2Proof.Machine.execBitAbsX a16 s
  | .andAbsX a16 => Sys2Proof.Machine.execAndAbsX a16 s
  | .rolAbsX a16 => Sys2Proof.Machine.execRolAbsX a16 s
  | .andLongX a24 => Sys2Proof.Machine.execAndLongX a24 s
  | .eorIndX d8 => Sys2Proof.Machine.execEorIndX d8 s
  | .eorSr d8 => Sys2Proof.Machine.execEorSr d8 s
  | .mvp dst src => Sys2Proof.Machine.execMvp dst src s
  | .eorDir d8 => Sys2Proof.Machine.execEorDir d8 s
  | .lsrDir d8 => Sys2Proof.Machine.execLsrDir d8 s
  | .eorIndLong d8 => Sys2Proof.Machine.execEorIndLong d8 s
  | .eorImm v => Sys2Proof.Machine.execEorImm v s
  | .jmpAbs a16 => Sys2Proof.Machine.execJmpAbs a16 s
  | .eorAbs a16 => Sys2Proof.Machine.execEorAbs a16 s
  | .lsrAbs a16 => Sys2Proof.Machine.execLsrAbs a16 s
  | .eorLong a24 => Sys2Proof.Machine.execEorLong a24 s
  | .bvc r8 => Sys2Proof.Machine.execBvc r8 s
  | .eorIndY d8 => Sys2Proof.Machine.execEorIndY d8 s
  | .eorInd d8 => Sys2Proof.Machine.execEorInd d8 s
  | .eorSrIndY d8 => Sys2Proof.Machine.execEorSrIndY d8 s
  | .mvn dst src => Sys2Proof.Machine.execMvn dst src s
  | .eorDirX d8 => Sys2Proof.Machine.execEorDirX d8 s
  | .lsrDirX d8 => Sys2Proof.Machine.execLsrDirX d8 s
  | .eorIndLongY d8 => Sys2Proof.Machine.execEorIndLongY d8 s
  | .eorAbsY a16 => Sys2Proof.Machine.execEorAbsY a16 s
  | .jmlLong a24 => Sys2Proof.Machine.execJmlLong a24 s
  | .eorAbsX a16 => Sys2Proof.Machine.execEorAbsX a16 s
  | .lsrAbsX a16 => Sys2Proof.Machine.execLsrAbsX a16 s
  | .eorLongX a24 => Sys2Proof.Machine.execEorLongX a24 s
  | .adcIndX d8 => Sys2Proof.Machine.execAdcIndX d8 s
  | .per r16 => Sys2Proof.Machine.execPer r16 s
  | .adcSr d8 => Sys2Proof.Machine.execAdcSr d8 s
  | .stzDir d8 => Sys2Proof.Machine.execStzDir d8 s
  | .adcDir d8 => Sys2Proof.Machine.execAdcDir d8 s
  | .rorDir d8 => Sys2Proof.Machine.execRorDir d8 s
  | .adcIndLong d8 => Sys2Proof.Machine.execAdcIndLong d8 s
  | .adcImm v => Sys2Proof.Machine.execAdcImm v s
  | .jmpAbsInd a16 => Sys2Proof.Machine.execJmpAbsInd a16 s
  | .adcAbs a16 => Sys2Proof.Machine.execAdcAbs a16 s
  | .rorAbs a16 => Sys2Proof.Machine.execRorAbs a16 s
  | .adcLong a24 => Sys2Proof.Machine.execAdcLong a24 s
  | .bvs r8 => Sys2Proof.Machine.execBvs r8 s
  | .adcIndY d8 => Sys2Proof.Machine.execAdcIndY d8 s
  | .adcInd d8 => Sys2Proof.Machine.execAdcInd d8 s
  | .adcSrIndY d8 => Sys2Proof.Machine.execAdcSrIndY d8 s
  | .stzDirX d8 => Sys2Proof.Machine.execStzDirX d8 s
  | .adcDirX d8 => Sys2Proof.Machine.execAdcDirX d8 s
  | .rorDirX d8 => Sys2Proof.Machine.execRorDirX d8 s
  | .adcIndLongY d8 => Sys2Proof.Machine.execAdcIndLongY d8 s
  | .adcAbsY a16 => Sys2Proof.Machine.execAdcAbsY a16 s
  | .jmpAbsIndX a16 => Sys2Proof.Machine.execJmpAbsIndX a16 s
  | .adcAbsX a16 => Sys2Proof.Machine.execAdcAbsX a16 s
  | .rorAbsX a16 => Sys2Proof.Machine.execRorAbsX a16 s
  | .adcLongX a24 => Sys2Proof.Machine.execAdcLongX a24 s
  | .bra r8 => Sys2Proof.Machine.execBra r8 s
  | .staIndX d8 => Sys2Proof.Machine.execStaIndX d8 s
  | .brl r16 => Sys2Proof.Machine.execBrl r16 s
  | .staSr d8 => Sys2Proof.Machine.execStaSr d8 s
  | .styDir d8 => Sys2Proof.Machine.execStyDir d8 s
  | .staDir d8 => Sys2Proof.Machine.execStaDir d8 s
  | .stxDir d8 => Sys2Proof.Machine.execStxDir d8 s
  | .staIndLong d8 => Sys2Proof.Machine.execStaIndLong d8 s
  | .bitImm v => Sys2Proof.Machine.execBitImm v s
  | .styAbs a16 => Sys2Proof.Machine.execStyAbs a16 s
  | .staAbs a16 => Sys2Proof.Machine.execStaAbs a16 s
  | .stxAbs a16 => Sys2Proof.Machine.execStxAbs a16 s
  | .staLong a24 => Sys2Proof.Machine.execStaLong a24 s
  | .bcc r8 => Sys2Proof.Machine.execBcc r8 s
  | .staIndY d8 => Sys2Proof.Machine.execStaIndY d8 s
  | .staInd d8 => Sys2Proof.Machine.execStaInd d8 s
  | .staSrIndY d8 => Sys2Proof.Machine.execStaSrIndY d8 s
  | .styDirX d8 => Sys2Proof.Machine.execStyDirX d8 s
  | .staDirX d8 => Sys2Proof.Machine.execStaDirX d8 s
  | .stxDirY d8 => Sys2Proof.Machine.execStxDirY d8 s
  | .staIndLongY d8 => Sys2Proof.Machine.execStaIndLongY d8 s
  | .staAbsY a16 => Sys2Proof.Machine.execStaAbsY a16 s
  | .stzAbs a16 => Sys2Proof.Machine.execStzAbs a16 s
  | .staAbsX a16 => Sys2Proof.Machine.execStaAbsX a16 s
  | .stzAbsX a16 => Sys2Proof.Machine.execStzAbsX a16 s
  | .staLongX a24 => Sys2Proof.Machine.execStaLongX a24 s
  | .ldyImm v => Sys2Proof.Machine.execLdyImm v s
  | .ldaIndX d8 => Sys2Proof.Machine.execLdaIndX d8 s
  | .ldxImm v => Sys2Proof.Machine.execLdxImm v s
  | .ldaSr d8 => Sys2Proof.Machine.execLdaSr d8 s
  | .ldyDir d8 => Sys2Proof.Machine.execLdyDir d8 s
  | .ldaDir d8 => Sys2Proof.Machine.execLdaDir d8 s
  | .ldxDir d8 => Sys2Proof.Machine.execLdxDir d8 s
  | .ldaIndLong d8 => Sys2Proof.Machine.execLdaIndLong d8 s
  | .ldaImm v => Sys2Proof.Machine.execLdaImm v s
  | .ldyAbs a16 => Sys2Proof.Machine.execLdyAbs a16 s
  | .ldaAbs a16 => Sys2Proof.Machine.execLdaAbs a16 s
  | .ldxAbs a16 => Sys2Proof.Machine.execLdxAbs a16 s
  | .ldaLong a24 => Sys2Proof.Machine.execLdaLong a24 s
  | .bcs r8 => Sys2Proof.Machine.execBcs r8 s
  | .ldaIndY d8 => Sys2Proof.Machine.execLdaIndY d8 s
  | .ldaInd d8 => Sys2Proof.Machine.execLdaInd d8 s
  | .ldaSrIndY d8 => Sys2Proof.Machine.execLdaSrIndY d8 s
  | .ldyDirX d8 => Sys2Proof.Machine.execLdyDirX d8 s
  | .ldaDirX d8 => Sys2Proof.Machine.execLdaDirX d8 s
  | .ldxDirY d8 => Sys2Proof.Machine.execLdxDirY d8 s
  | .ldaIndLongY d8 => Sys2Proof.Machine.execLdaIndLongY d8 s
  | .ldaAbsY a16 => Sys2Proof.Machine.execLdaAbsY a16 s
  | .ldyAbsX a16 => Sys2Proof.Machine.execLdyAbsX a16 s
  | .ldaAbsX a16 => Sys2Proof.Machine.execLdaAbsX a16 s
  | .ldxAbsY a16 => Sys2Proof.Machine.execLdxAbsY a16 s
  | .ldaLongX a24 => Sys2Proof.Machine.execLdaLongX a24 s
  | .cpyImm v => Sys2Proof.Machine.execCpyImm v s
  | .cmpIndX d8 => Sys2Proof.Machine.execCmpIndX d8 s
  | .rep m8 => Sys2Proof.Machine.execRep m8 s
  | .cmpSr d8 => Sys2Proof.Machine.execCmpSr d8 s
  | .cpyDir d8 => Sys2Proof.Machine.execCpyDir d8 s
  | .cmpDir d8 => Sys2Proof.Machine.execCmpDir d8 s
  | .decDir d8 => Sys2Proof.Machine.execDecDir d8 s
  | .cmpIndLong d8 => Sys2Proof.Machine.execCmpIndLong d8 s
  | .cmpImm v => Sys2Proof.Machine.execCmpImm v s
  | .cpyAbs a16 => Sys2Proof.Machine.execCpyAbs a16 s
  | .cmpAbs a16 => Sys2Proof.Machine.execCmpAbs a16 s
  | .decAbs a16 => Sys2Proof.Machine.execDecAbs a16 s
  | .cmpLong a24 => Sys2Proof.Machine.execCmpLong a24 s
  | .bne r8 => Sys2Proof.Machine.execBne r8 s
  | .cmpIndY d8 => Sys2Proof.Machine.execCmpIndY d8 s
  | .cmpInd d8 => Sys2Proof.Machine.execCmpInd d8 s
  | .cmpSrIndY d8 => Sys2Proof.Machine.execCmpSrIndY d8 s
  | .pei d8 => Sys2Proof.Machine.execPei d8 s
  | .cmpDirX d8 => Sys2Proof.Machine.execCmpDirX d8 s
  | .decDirX d8 => Sys2Proof.Machine.execDecDirX d8 s
  | .cmpIndLongY d8 => Sys2Proof.Machine.execCmpIndLongY d8 s
  | .cmpAbsY a16 => Sys2Proof.Machine.execCmpAbsY a16 s
  | .jmlAbsIndLong a16 => Sys2Proof.Machine.execJmlAbsIndLong a16 s
  | .cmpAbsX a16 => Sys2Proof.Machine.execCmpAbsX a16 s
  | .decAbsX a16 => Sys2Proof.Machine.execDecAbsX a16 s
  | .cmpLongX a24 => Sys2Proof.Machine.execCmpLongX a24 s
  | .cpxImm v => Sys2Proof.Machine.execCpxImm v s
  | .sbcIndX d8 => Sys2Proof.Machine.execSbcIndX d8 s
  | .sep m8 => Sys2Proof.Machine.execSep m8 s
  | .sbcSr d8 => Sys2Proof.Machine.execSbcSr d8 s
  | .cpxDir d8 => Sys2Proof.Machine.execCpxDir d8 s
  | .sbcDir d8 => Sys2Proof.Machine.execSbcDir d8 s
  | .incDir d8 => Sys2Proof.Machine.execIncDir d8 s
  | .sbcIndLong d8 => Sys2Proof.Machine.execSbcIndLong d8 s
  | .sbcImm v => Sys2Proof.Machine.execSbcImm v s
  | .cpxAbs a16 => Sys2Proof.Machine.execCpxAbs a16 s
  | .sbcAbs a16 => Sys2Proof.Machine.execSbcAbs a16 s
  | .incAbs a16 => Sys2Proof.Machine.execIncAbs a16 s
  | .sbcLong a24 => Sys2Proof.Machine.execSbcLong a24 s
  | .beq r8 => Sys2Proof.Machine.execBeq r8 s
  | .sbcIndY d8 => Sys2Proof.Machine.execSbcIndY d8 s
  | .sbcInd d8 => Sys2Proof.Machine.execSbcInd d8 s
  | .sbcSrIndY d8 => Sys2Proof.Machine.execSbcSrIndY d8 s
  | .pea a16 => Sys2Proof.Machine.execPea a16 s
  | .sbcDirX d8 => Sys2Proof.Machine.execSbcDirX d8 s
  | .incDirX d8 => Sys2Proof.Machine.execIncDirX d8 s
  | .sbcIndLongY d8 => Sys2Proof.Machine.execSbcIndLongY d8 s
  | .sbcAbsY a16 => Sys2Proof.Machine.execSbcAbsY a16 s
  | .jsrAbsIndX a16 => Sys2Proof.Machine.execJsrAbsIndX a16 s
  | .sbcAbsX a16 => Sys2Proof.Machine.execSbcAbsX a16 s
  | .incAbsX a16 => Sys2Proof.Machine.execIncAbsX a16 s
  | .sbcLongX a24 => Sys2Proof.Machine.execSbcLongX a24 s
  | .wdm skip => Sys2Proof.Machine.execWdm skip s
  | .php => Sys2Proof.Machine.execPhp s
  | .aslAcc => Sys2Proof.Machine.execAslAcc s
  | .phd => Sys2Proof.Machine.execPhd s
  | .clc => Sys2Proof.Machine.execClc s
  | .incAcc => Sys2Proof.Machine.execIncAcc s
  | .tcs => Sys2Proof.Machine.execTcs s
  | .plp => Sys2Proof.Machine.execPlp s
  | .rolAcc => Sys2Proof.Machine.execRolAcc s
  | .pld => Sys2Proof.Machine.execPld s
  | .sec => Sys2Proof.Machine.execSec s
  | .decAcc => Sys2Proof.Machine.execDecAcc s
  | .tsc => Sys2Proof.Machine.execTsc s
  | .rti => Sys2Proof.Machine.execRti s
  | .xfe => Sys2Proof.Machine.execXfe s
  | .pha => Sys2Proof.Machine.execPha s
  | .lsrAcc => Sys2Proof.Machine.execLsrAcc s
  | .phk => Sys2Proof.Machine.execPhk s
  | .cli => Sys2Proof.Machine.execCli s
  | .phy => Sys2Proof.Machine.execPhy s
  | .tcd => Sys2Proof.Machine.execTcd s
  | .rts => Sys2Proof.Machine.execRts s
  | .pla => Sys2Proof.Machine.execPla s
  | .rorAcc => Sys2Proof.Machine.execRorAcc s
  | .rtl => Sys2Proof.Machine.execRtl s
  | .sei => Sys2Proof.Machine.execSei s
  | .ply => Sys2Proof.Machine.execPly s
  | .tdc => Sys2Proof.Machine.execTdc s
  | .dey => Sys2Proof.Machine.execDey s
  | .txa => Sys2Proof.Machine.execTxa s
  | .phb => Sys2Proof.Machine.execPhb s
  | .tya => Sys2Proof.Machine.execTya s
  | .txs => Sys2Proof.Machine.execTxs s
  | .txy => Sys2Proof.Machine.execTxy s
  | .tay => Sys2Proof.Machine.execTay s
  | .tax => Sys2Proof.Machine.execTax s
  | .plb => Sys2Proof.Machine.execPlb s
  | .clv => Sys2Proof.Machine.execClv s
  | .tsx => Sys2Proof.Machine.execTsx s
  | .tyx => Sys2Proof.Machine.execTyx s
  | .iny => Sys2Proof.Machine.execIny s
  | .dex => Sys2Proof.Machine.execDex s
  | .wai => Sys2Proof.Machine.execWai s
  | .cld => Sys2Proof.Machine.execCld s
  | .phx => Sys2Proof.Machine.execPhx s
  | .stp => Sys2Proof.Machine.execStp s
  | .inx => Sys2Proof.Machine.execInx s
  | .nop => Sys2Proof.Machine.execNop s
  | .xba => Sys2Proof.Machine.execXba s
  | .sed => Sys2Proof.Machine.execSed s
  | .plx => Sys2Proof.Machine.execPlx s
  | .xce => Sys2Proof.Machine.execXce s

end Sys2Proof.Machine
end

