-- ==== Sys2Proof/Machine/Fetch.lean ====
section
/-! DEFINITION. Fetching an instruction's bytes at `PBR:PC` (spec 00_scope.md R6, R7, 10_state.md R29,
R49), and placing bytes there. -/

namespace Sys2Proof.Machine

/-- `Fetch(k)`: the byte at `PBR : ((PC + k) mod 65536)` (00_scope.md R6). -/
def State.fetch (s : State) (k : Nat) : Byte := s.readByte ((Loc.program s.pbr s.pc).addr k)

/-- The bytes at `PBR:PC`, as many as the longest instruction has (30_encoding.md R101). -/
def State.fetchBytes (s : State) : List Byte := (List.range 5).map s.fetch

/-- The instruction at `PBR:PC` at the widths in force (00_scope.md R7, 30_encoding.md R112). -/
def State.fetchInstr (s : State) : Instr :=
  decodeOp s.widths (s.fetch 0)
    { b1 := s.fetch 1, b2 := s.fetch 2, b3 := s.fetch 3, b4 := s.fetch 4 }

/-- The opcode is latched in the Instruction Register (10_state.md R45), and the step takes a fresh
index for its free values (log 13). -/
def State.latched (s : State) : State := { s with ir := s.fetch 0, draw := s.draw + 1 }

/-- Puts bytes at `PBR:PC` on, wrapping inside the program bank (10_state.md R49). -/
def State.placeBytes (s : State) : Nat → List Byte → State
  | _, [] => s
  | k, b :: bs => (s.writeByte ((Loc.program s.pbr s.pc).addr k) b).placeBytes (k + 1) bs

end Sys2Proof.Machine
end

