-- ==== Sys2Proof/Machine/Inputs.lean ====
section
/-! DEFINITION. The input pins: which interrupt is due at an instruction boundary, and what a sample of
the pins does at the end of a step (spec 60_exceptions.md R342 to R347, R362, R366, R367). -/

namespace Sys2Proof.Machine

/-- The interrupt taken at this boundary, in the priority order ABORT-, NMI-, IRQ- (R346, R347). -/
def State.interruptDue (s : State) : Option Interrupt :=
  if s.abortPending then some .abort
  else if s.nmiPending then some .nmi
  else if s.irqLow && !s.flag .i then some .irq
  else none

/-- A tick of the wait: a low IRQ- that is masked ends it without a sequence (R366 (e)). -/
def State.waitTick (s : State) : State := { s with waiting := !s.irqLow }

/-- The latches and the IRQ- level after a sample, and RES- over everything (R342, R343, R344). -/
def State.latchPins (s : State) (pin : PinSample) : State :=
  let t := { s with
    nmiPending := s.nmiPending || pin.nmiEdge
    abortPending := s.abortPending || decide (pin.abort ≠ .none)
    irqLow := pin.irqLow }
  if pin.resLow then t.resetSequence else t

/-- The end of a step that ran no instruction: the next sample, if there is one, is applied. -/
def State.sample (s : State) : State :=
  match s.inputs with
  | [] => s
  | pin :: rest => State.latchPins { s with inputs := rest } pin

/-- An instruction that ABORT- hit: no register of `before` is modified, and its memory writes have
reached memory or not as the platform says (R345, R362). -/
def State.abortEffect (before after : State) : AbortPulse → State
  | .none => after
  | .writesBlocked => before
  | .writesLand => { before with mem := after.mem }

/-- The end of a step that ran an instruction from `before` to `after` (R345, R346). -/
def State.sampleAfter (before after : State) : State :=
  match after.inputs with
  | [] => after
  | pin :: rest => State.latchPins { before.abortEffect after pin.abort with inputs := rest } pin

/-- A step of a stopped processor: "no interrupt input is looked at" but RES- (R346, R367). -/
def State.sampleStopped (s : State) : State :=
  match s.inputs with
  | [] => s
  | pin :: rest =>
    let t := { s with inputs := rest, irqLow := pin.irqLow }
    if pin.resLow then t.resetSequence else t

/-- The machine after RES- with an image in memory: how a program comes to run (70_reset_and_hazards.md
R390, R392; log 26). -/
def State.loaded (image : Memory) : State :=
  let s := { State.reset with mem := image }
  { s with pc := s.ptr16 (.bank0 Config.resetVector) }

end Sys2Proof.Machine
end

