-- ==== Sys2Proof/Machine/Run.lean ====
section
/-! DEFINITION. Running one instruction from memory (spec 00_scope.md R7). -/

namespace Sys2Proof.Machine

/-- One instruction, fetched and executed (00_scope.md R7), then the sample of the input pins. -/
def State.runInstruction (s : State) : Result :=
  match exec s.fetchInstr s.latched with
  | .next t => .next (s.latched.sampleAfter t)
  | .fault f => .fault f
  | .refused r => .refused r

end Sys2Proof.Machine
end

