-- ==== Sys2Proof/Machine/Step.lean ====
section
/-! DEFINITION. One step of the machine (spec 00_scope.md R7): an interrupt sequence, a tick of a wait or
of a stop, or one instruction. -/

namespace Sys2Proof.Machine

/-- One step: at the boundary the interrupts are evaluated before the next opcode is fetched
(60_exceptions.md R346); a stopped processor sees RES- alone (R367). -/
def step (s : State) : Result :=
  if s.stopped then .next s.sampleStopped
  else
    match s.interruptDue with
    | some k => .next (s.takeInterrupt k s.pc).sample
    | none => if s.waiting then .next s.waitTick.sample else s.runInstruction

/-- `s` with an instruction whose bits are `w`, and zeros up to five bytes, at `PBR:PC`, and with
nothing that would keep the next step from fetching it. -/
def State.withFetchWord (s : State) (nbits w : Nat) : State :=
  { s.placeBytes 0 (tableBytes nbits w) with
    stopped := false
    waiting := false
    abortPending := false
    nmiPending := false
    irqLow := false }

end Sys2Proof.Machine
end

