-- ==== Sys2Proof/Safety.lean ====
section
/-! DEFINITION. What a good state is: the invariants the spec states of the machine (10_state.md R23, R25,
R35) and the canonical form of memory; and the words in which the statements say what an instruction
leaves alone and where it reads, pushes and pulls. -/

namespace Sys2Proof.Machine

/-- In EMU8, M and X are 1 and the high byte of S is 01 (10_state.md R25, R35). -/
abbrev State.Emu8Forced (s : State) : Prop :=
  s.emu8 = true →
    s.flag .m = true ∧ s.flag .x = true ∧ s.sp.extractLsb' 8 8 = 0x01#8

/-- While P.X = 1, the upper three bytes of X and Y are zero (10_state.md R23). -/
abbrev State.IndexHighZero (s : State) : Prop :=
  s.flag .x = true → s.x.extractLsb' 8 24 = 0#24 ∧ s.y.extractLsb' 8 24 = 0#24

/-- The invariant of the machine. -/
abbrev State.Inv (s : State) : Prop := s.Emu8Forced ∧ s.IndexHighZero ∧ s.mem.wf

/-- Every flag outside a list is as before. -/
abbrev FlagsKept (s t : State) (changed : List Flag) : Prop :=
  ∀ f : Flag, f ∉ changed → t.flag f = s.flag f

/-- Every byte of memory reads as before. -/
abbrev MemoryKept (s t : State) : Prop := ∀ a : Nat, t.readByte a = s.readByte a

/-- Every byte of memory outside `addr 0`, …, `addr (n - 1)` reads as before. -/
abbrev MemoryKeptOutside (s t : State) (addr : Nat → Nat) (n : Nat) : Prop :=
  ∀ a : Nat, (∀ k, k < n → a % Config.addrSpace ≠ addr k) → t.readByte a = s.readByte a

/-- The bytes at `addr 0`, …, `addr (n - 1)` are those of `v`, the least significant first. -/
abbrev Holds (t : State) (addr : Nat → Nat) (n v : Nat) : Prop :=
  ∀ k, k < n → t.readByte (addr k) = BitVec.ofNat 8 (v / 256 ^ k)

/-- `sum over i of byte(a_i) * 256^i` (20_memory.md R79). -/
def littleEndian (f : Nat → Byte) : Nat → Nat
  | 0 => 0
  | n + 1 => littleEndian f n + (f n).toNat * 256 ^ n

/-- The little-endian value of `n` bytes of memory at given addresses. -/
def bytesAt (s : State) (addr : Nat → Nat) (n : Nat) : Nat :=
  littleEndian (fun k => s.readByte (addr k)) n

/-- S after `k` pushes (10_state.md R24, R25). -/
def pushedS (s : State) (k : Nat) : Word16 :=
  if k = 0 then s.sp
  else if s.emu8 then 0x01#8 ++ (s.sp.setWidth 8 - BitVec.ofNat 8 k)
  else s.sp - BitVec.ofNat 16 k

/-- S after `k` pulls (R24, R25). -/
def pulledS (s : State) (k : Nat) : Word16 :=
  if k = 0 then s.sp
  else if s.emu8 then 0x01#8 ++ (s.sp.setWidth 8 + BitVec.ofNat 8 k)
  else s.sp + BitVec.ofNat 16 k

/-- The address of the `k`-th byte pushed, counted from 0. -/
def pushAddr (s : State) (k : Nat) : Nat := (pushedS s k).toNat

/-- The address of the `k`-th byte pulled, counted from 0. -/
def pullAddr (s : State) (k : Nat) : Nat := (pulledS s (k + 1)).toNat

/-- The bytes of a list have been pushed, the first one first, and no other byte written. -/
abbrev Pushed (s t : State) (bytes : List Byte) : Prop :=
  t.sp = pushedS s bytes.length ∧
    (∀ k (h : k < bytes.length), t.readByte (pushAddr s k) = bytes[k]) ∧
    MemoryKeptOutside s t (pushAddr s) bytes.length

/-- The `n` bytes of a value, the most significant first (44_stack_status_system.md R290). -/
def highFirst (v n : Nat) : List Byte :=
  (List.range n).map fun k => BitVec.ofNat 8 (v / 256 ^ (n - 1 - k))

end Sys2Proof.Machine
end

