-- ==== Sys2Proof/WellFormed.lean ====
section
/-! DEFINITION. Which instructions have an encoding at the widths in force (spec 30_encoding.md R102,
R106). -/

namespace Sys2Proof

/-- An immediate fits its width (30_encoding.md R102). -/
def Operand.fits (w : Widths) : Operand → Bool
  | .immA v => decide (v.toNat < 2 ^ w.mw.bits)
  | .immX v => decide (v.toNat < 2 ^ w.xw.bits)
  | _ => true

/-- The instruction has an opcode: XFE only if `XFE_OPCODE` is one, and any other row only if
`XFE_OPCODE` does not take its opcode (R106). -/
def Instr.available (xfe : Option Byte) (i : Instr) : Bool :=
  if i = .xfe then xfe.isSome else decide (xfe ≠ some i.opcode)

/-- The instruction is well formed, for a value of `XFE_OPCODE`. -/
def WellFormedWith (xfe : Option Byte) (w : Widths) (i : Instr) : Bool :=
  i.operand.fits w && i.available xfe

/-- The instruction is well formed: it has an encoding at the widths `w`. -/
def WellFormed (w : Widths) (i : Instr) : Bool := WellFormedWith Config.xfeOpcode w i

end Sys2Proof
end

