-- ==== Sys2Proof/Certificates/Slice0/Obligations.lean ====
section
/-! DEFINITION. The statements for the provers. Each definition under `Obligations` is one statement; the
words they share stand first, under `Sys2Proof.Claims`. -/

namespace Sys2Proof.Claims

open Sys2Proof.Machine

/-! ### The words of the statements -/

/-- The cell of the opcode matrix an instruction stands in: its opcode and format symbol (30_encoding.md
R104). -/
def cell (i : Instr) : Byte × Format := (i.opcode, i.format)

/-- The cells of a mnemonic, from the Encodings lines of the instruction rules. -/
def cellsOf : Mnemonic → List (Byte × Format)
  | .adc =>
    [(0x61#8, .indX), (0x63#8, .sr), (0x65#8, .dir), (0x67#8, .indLong), (0x69#8, .imm),
     (0x6D#8, .abs), (0x6F#8, .long), (0x71#8, .indY), (0x72#8, .ind), (0x73#8, .srIndY),
     (0x75#8, .dirX), (0x77#8, .indLongY), (0x79#8, .absY), (0x7D#8, .absX), (0x7F#8, .longX)]
  | .and =>
    [(0x21#8, .indX), (0x23#8, .sr), (0x25#8, .dir), (0x27#8, .indLong), (0x29#8, .imm),
     (0x2D#8, .abs), (0x2F#8, .long), (0x31#8, .indY), (0x32#8, .ind), (0x33#8, .srIndY),
     (0x35#8, .dirX), (0x37#8, .indLongY), (0x39#8, .absY), (0x3D#8, .absX), (0x3F#8, .longX)]
  | .asl =>
    [(0x06#8, .dir), (0x0A#8, .acc), (0x0E#8, .abs), (0x16#8, .dirX), (0x1E#8, .absX)]
  | .bcc =>
    [(0x90#8, .rel)]
  | .bcs =>
    [(0xB0#8, .rel)]
  | .beq =>
    [(0xF0#8, .rel)]
  | .bit =>
    [(0x24#8, .dir), (0x2C#8, .abs), (0x34#8, .dirX), (0x3C#8, .absX), (0x89#8, .imm)]
  | .bmi =>
    [(0x30#8, .rel)]
  | .bne =>
    [(0xD0#8, .rel)]
  | .bpl =>
    [(0x10#8, .rel)]
  | .bra =>
    [(0x80#8, .rel)]
  | .brk =>
    [(0x00#8, .stack)]
  | .brl =>
    [(0x82#8, .relLong)]
  | .bvc =>
    [(0x50#8, .rel)]
  | .bvs =>
    [(0x70#8, .rel)]
  | .clc =>
    [(0x18#8, .implied)]
  | .cld =>
    [(0xD8#8, .implied)]
  | .cli =>
    [(0x58#8, .implied)]
  | .clv =>
    [(0xB8#8, .implied)]
  | .cmp =>
    [(0xC1#8, .indX), (0xC3#8, .sr), (0xC5#8, .dir), (0xC7#8, .indLong), (0xC9#8, .imm),
     (0xCD#8, .abs), (0xCF#8, .long), (0xD1#8, .indY), (0xD2#8, .ind), (0xD3#8, .srIndY),
     (0xD5#8, .dirX), (0xD7#8, .indLongY), (0xD9#8, .absY), (0xDD#8, .absX), (0xDF#8, .longX)]
  | .cop =>
    [(0x02#8, .stack)]
  | .cpx =>
    [(0xE0#8, .imm), (0xE4#8, .dir), (0xEC#8, .abs)]
  | .cpy =>
    [(0xC0#8, .imm), (0xC4#8, .dir), (0xCC#8, .abs)]
  | .dec =>
    [(0x3A#8, .acc), (0xC6#8, .dir), (0xCE#8, .abs), (0xD6#8, .dirX), (0xDE#8, .absX)]
  | .dex =>
    [(0xCA#8, .implied)]
  | .dey =>
    [(0x88#8, .implied)]
  | .eor =>
    [(0x41#8, .indX), (0x43#8, .sr), (0x45#8, .dir), (0x47#8, .indLong), (0x49#8, .imm),
     (0x4D#8, .abs), (0x4F#8, .long), (0x51#8, .indY), (0x52#8, .ind), (0x53#8, .srIndY),
     (0x55#8, .dirX), (0x57#8, .indLongY), (0x59#8, .absY), (0x5D#8, .absX), (0x5F#8, .longX)]
  | .inc =>
    [(0x1A#8, .acc), (0xE6#8, .dir), (0xEE#8, .abs), (0xF6#8, .dirX), (0xFE#8, .absX)]
  | .inx =>
    [(0xE8#8, .implied)]
  | .iny =>
    [(0xC8#8, .implied)]
  | .jml =>
    [(0x5C#8, .long), (0xDC#8, .absIndLong)]
  | .jmp =>
    [(0x4C#8, .abs), (0x6C#8, .absInd), (0x7C#8, .absIndX)]
  | .jsl =>
    [(0x22#8, .long)]
  | .jsr =>
    [(0x20#8, .abs), (0xFC#8, .absIndX)]
  | .lda =>
    [(0xA1#8, .indX), (0xA3#8, .sr), (0xA5#8, .dir), (0xA7#8, .indLong), (0xA9#8, .imm),
     (0xAD#8, .abs), (0xAF#8, .long), (0xB1#8, .indY), (0xB2#8, .ind), (0xB3#8, .srIndY),
     (0xB5#8, .dirX), (0xB7#8, .indLongY), (0xB9#8, .absY), (0xBD#8, .absX), (0xBF#8, .longX)]
  | .ldx =>
    [(0xA2#8, .imm), (0xA6#8, .dir), (0xAE#8, .abs), (0xB6#8, .dirY), (0xBE#8, .absY)]
  | .ldy =>
    [(0xA0#8, .imm), (0xA4#8, .dir), (0xAC#8, .abs), (0xB4#8, .dirX), (0xBC#8, .absX)]
  | .lsr =>
    [(0x46#8, .dir), (0x4A#8, .acc), (0x4E#8, .abs), (0x56#8, .dirX), (0x5E#8, .absX)]
  | .mvn =>
    [(0x54#8, .blockMove)]
  | .mvp =>
    [(0x44#8, .blockMove)]
  | .nop =>
    [(0xEA#8, .implied)]
  | .ora =>
    [(0x01#8, .indX), (0x03#8, .sr), (0x05#8, .dir), (0x07#8, .indLong), (0x09#8, .imm),
     (0x0D#8, .abs), (0x0F#8, .long), (0x11#8, .indY), (0x12#8, .ind), (0x13#8, .srIndY),
     (0x15#8, .dirX), (0x17#8, .indLongY), (0x19#8, .absY), (0x1D#8, .absX), (0x1F#8, .longX)]
  | .pea =>
    [(0xF4#8, .abs)]
  | .pei =>
    [(0xD4#8, .ind)]
  | .per =>
    [(0x62#8, .relLong)]
  | .pha =>
    [(0x48#8, .stack)]
  | .phb =>
    [(0x8B#8, .stack)]
  | .phd =>
    [(0x0B#8, .stack)]
  | .phk =>
    [(0x4B#8, .stack)]
  | .php =>
    [(0x08#8, .stack)]
  | .phx =>
    [(0xDA#8, .stack)]
  | .phy =>
    [(0x5A#8, .stack)]
  | .pla =>
    [(0x68#8, .stack)]
  | .plb =>
    [(0xAB#8, .stack)]
  | .pld =>
    [(0x2B#8, .stack)]
  | .plp =>
    [(0x28#8, .stack)]
  | .plx =>
    [(0xFA#8, .stack)]
  | .ply =>
    [(0x7A#8, .stack)]
  | .rep =>
    [(0xC2#8, .imm)]
  | .rol =>
    [(0x26#8, .dir), (0x2A#8, .acc), (0x2E#8, .abs), (0x36#8, .dirX), (0x3E#8, .absX)]
  | .ror =>
    [(0x66#8, .dir), (0x6A#8, .acc), (0x6E#8, .abs), (0x76#8, .dirX), (0x7E#8, .absX)]
  | .rti =>
    [(0x40#8, .stack)]
  | .rtl =>
    [(0x6B#8, .stack)]
  | .rts =>
    [(0x60#8, .stack)]
  | .sbc =>
    [(0xE1#8, .indX), (0xE3#8, .sr), (0xE5#8, .dir), (0xE7#8, .indLong), (0xE9#8, .imm),
     (0xED#8, .abs), (0xEF#8, .long), (0xF1#8, .indY), (0xF2#8, .ind), (0xF3#8, .srIndY),
     (0xF5#8, .dirX), (0xF7#8, .indLongY), (0xF9#8, .absY), (0xFD#8, .absX), (0xFF#8, .longX)]
  | .sec =>
    [(0x38#8, .implied)]
  | .sed =>
    [(0xF8#8, .implied)]
  | .sei =>
    [(0x78#8, .implied)]
  | .sep =>
    [(0xE2#8, .imm)]
  | .sta =>
    [(0x81#8, .indX), (0x83#8, .sr), (0x85#8, .dir), (0x87#8, .indLong), (0x8D#8, .abs),
     (0x8F#8, .long), (0x91#8, .indY), (0x92#8, .ind), (0x93#8, .srIndY), (0x95#8, .dirX),
     (0x97#8, .indLongY), (0x99#8, .absY), (0x9D#8, .absX), (0x9F#8, .longX)]
  | .stp =>
    [(0xDB#8, .implied)]
  | .stx =>
    [(0x86#8, .dir), (0x8E#8, .abs), (0x96#8, .dirY)]
  | .sty =>
    [(0x84#8, .dir), (0x8C#8, .abs), (0x94#8, .dirX)]
  | .stz =>
    [(0x64#8, .dir), (0x74#8, .dirX), (0x9C#8, .abs), (0x9E#8, .absX)]
  | .tax =>
    [(0xAA#8, .implied)]
  | .tay =>
    [(0xA8#8, .implied)]
  | .tcd =>
    [(0x5B#8, .implied)]
  | .tcs =>
    [(0x1B#8, .implied)]
  | .tdc =>
    [(0x7B#8, .implied)]
  | .trb =>
    [(0x14#8, .dir), (0x1C#8, .abs)]
  | .tsb =>
    [(0x04#8, .dir), (0x0C#8, .abs)]
  | .tsc =>
    [(0x3B#8, .implied)]
  | .tsx =>
    [(0xBA#8, .implied)]
  | .txa =>
    [(0x8A#8, .implied)]
  | .txs =>
    [(0x9A#8, .implied)]
  | .txy =>
    [(0x9B#8, .implied)]
  | .tya =>
    [(0x98#8, .implied)]
  | .tyx =>
    [(0xBB#8, .implied)]
  | .wai =>
    [(0xCB#8, .implied)]
  | .wdm =>
    [(0x42#8, .implied)]
  | .xba =>
    [(0xEB#8, .implied)]
  | .xce =>
    [(0xFB#8, .implied)]
  | .xfe =>
    [(0x42#8, .implied)]

/-- The opcode matrix of rule R104, row by row. -/
def matrix : List (List (Mnemonic × Format)) :=
  [[(.brk, .stack), (.ora, .indX), (.cop, .stack), (.ora, .sr),
     (.tsb, .dir), (.ora, .dir), (.asl, .dir), (.ora, .indLong),
     (.php, .stack), (.ora, .imm), (.asl, .acc), (.phd, .stack),
     (.tsb, .abs), (.ora, .abs), (.asl, .abs), (.ora, .long)],
   [(.bpl, .rel), (.ora, .indY), (.ora, .ind), (.ora, .srIndY),
     (.trb, .dir), (.ora, .dirX), (.asl, .dirX), (.ora, .indLongY),
     (.clc, .implied), (.ora, .absY), (.inc, .acc), (.tcs, .implied),
     (.trb, .abs), (.ora, .absX), (.asl, .absX), (.ora, .longX)],
   [(.jsr, .abs), (.and, .indX), (.jsl, .long), (.and, .sr),
     (.bit, .dir), (.and, .dir), (.rol, .dir), (.and, .indLong),
     (.plp, .stack), (.and, .imm), (.rol, .acc), (.pld, .stack),
     (.bit, .abs), (.and, .abs), (.rol, .abs), (.and, .long)],
   [(.bmi, .rel), (.and, .indY), (.and, .ind), (.and, .srIndY),
     (.bit, .dirX), (.and, .dirX), (.rol, .dirX), (.and, .indLongY),
     (.sec, .implied), (.and, .absY), (.dec, .acc), (.tsc, .implied),
     (.bit, .absX), (.and, .absX), (.rol, .absX), (.and, .longX)],
   [(.rti, .stack), (.eor, .indX), (.xfe, .implied), (.eor, .sr),
     (.mvp, .blockMove), (.eor, .dir), (.lsr, .dir), (.eor, .indLong),
     (.pha, .stack), (.eor, .imm), (.lsr, .acc), (.phk, .stack),
     (.jmp, .abs), (.eor, .abs), (.lsr, .abs), (.eor, .long)],
   [(.bvc, .rel), (.eor, .indY), (.eor, .ind), (.eor, .srIndY),
     (.mvn, .blockMove), (.eor, .dirX), (.lsr, .dirX), (.eor, .indLongY),
     (.cli, .implied), (.eor, .absY), (.phy, .stack), (.tcd, .implied),
     (.jml, .long), (.eor, .absX), (.lsr, .absX), (.eor, .longX)],
   [(.rts, .stack), (.adc, .indX), (.per, .relLong), (.adc, .sr),
     (.stz, .dir), (.adc, .dir), (.ror, .dir), (.adc, .indLong),
     (.pla, .stack), (.adc, .imm), (.ror, .acc), (.rtl, .stack),
     (.jmp, .absInd), (.adc, .abs), (.ror, .abs), (.adc, .long)],
   [(.bvs, .rel), (.adc, .indY), (.adc, .ind), (.adc, .srIndY),
     (.stz, .dirX), (.adc, .dirX), (.ror, .dirX), (.adc, .indLongY),
     (.sei, .implied), (.adc, .absY), (.ply, .stack), (.tdc, .implied),
     (.jmp, .absIndX), (.adc, .absX), (.ror, .absX), (.adc, .longX)],
   [(.bra, .rel), (.sta, .indX), (.brl, .relLong), (.sta, .sr),
     (.sty, .dir), (.sta, .dir), (.stx, .dir), (.sta, .indLong),
     (.dey, .implied), (.bit, .imm), (.txa, .implied), (.phb, .stack),
     (.sty, .abs), (.sta, .abs), (.stx, .abs), (.sta, .long)],
   [(.bcc, .rel), (.sta, .indY), (.sta, .ind), (.sta, .srIndY),
     (.sty, .dirX), (.sta, .dirX), (.stx, .dirY), (.sta, .indLongY),
     (.tya, .implied), (.sta, .absY), (.txs, .implied), (.txy, .implied),
     (.stz, .abs), (.sta, .absX), (.stz, .absX), (.sta, .longX)],
   [(.ldy, .imm), (.lda, .indX), (.ldx, .imm), (.lda, .sr),
     (.ldy, .dir), (.lda, .dir), (.ldx, .dir), (.lda, .indLong),
     (.tay, .implied), (.lda, .imm), (.tax, .implied), (.plb, .stack),
     (.ldy, .abs), (.lda, .abs), (.ldx, .abs), (.lda, .long)],
   [(.bcs, .rel), (.lda, .indY), (.lda, .ind), (.lda, .srIndY),
     (.ldy, .dirX), (.lda, .dirX), (.ldx, .dirY), (.lda, .indLongY),
     (.clv, .implied), (.lda, .absY), (.tsx, .implied), (.tyx, .implied),
     (.ldy, .absX), (.lda, .absX), (.ldx, .absY), (.lda, .longX)],
   [(.cpy, .imm), (.cmp, .indX), (.rep, .imm), (.cmp, .sr),
     (.cpy, .dir), (.cmp, .dir), (.dec, .dir), (.cmp, .indLong),
     (.iny, .implied), (.cmp, .imm), (.dex, .implied), (.wai, .implied),
     (.cpy, .abs), (.cmp, .abs), (.dec, .abs), (.cmp, .long)],
   [(.bne, .rel), (.cmp, .indY), (.cmp, .ind), (.cmp, .srIndY),
     (.pei, .ind), (.cmp, .dirX), (.dec, .dirX), (.cmp, .indLongY),
     (.cld, .implied), (.cmp, .absY), (.phx, .stack), (.stp, .implied),
     (.jml, .absIndLong), (.cmp, .absX), (.dec, .absX), (.cmp, .longX)],
   [(.cpx, .imm), (.sbc, .indX), (.sep, .imm), (.sbc, .sr),
     (.cpx, .dir), (.sbc, .dir), (.inc, .dir), (.sbc, .indLong),
     (.inx, .implied), (.sbc, .imm), (.nop, .implied), (.xba, .implied),
     (.cpx, .abs), (.sbc, .abs), (.inc, .abs), (.sbc, .long)],
   [(.beq, .rel), (.sbc, .indY), (.sbc, .ind), (.sbc, .srIndY),
     (.pea, .abs), (.sbc, .dirX), (.inc, .dirX), (.sbc, .indLongY),
     (.sed, .implied), (.sbc, .absY), (.plx, .stack), (.xce, .implied),
     (.jsr, .absIndX), (.sbc, .absX), (.inc, .absX), (.sbc, .longX)]]

/-- A at width `w` holds `v`; an 8-bit write keeps `A[15:8]` (10_state.md R41). What `A[31:16]` holds
after a write narrower than 32 bits the spec leaves open. -/
abbrev AccWritten (s t : State) (w : Width) (v : BitVec w.bits) : Prop :=
  t.a.setWidth w.bits = v ∧ (w = .w8 → t.a.extractLsb' 8 8 = s.a.extractLsb' 8 8)

/-- An index register at width `w` holds `v`; at 8 bits its upper bytes are zero (R23, R41). -/
abbrev IndexWritten (reg : Word32) (w : Width) (v : BitVec w.bits) : Prop :=
  reg.setWidth w.bits = v ∧ (w = .w8 → reg.extractLsb' 8 24 = 0#24)

/-- `setNZ_n(v)` has been done (00_scope.md R6). -/
abbrev NZFrom (t : State) {n : Nat} (v : BitVec n) : Prop :=
  t.flag .n = v.getLsbD (n - 1) ∧ t.flag .z = decide (v.toNat = 0)

/-- PC is `PCnext`, past the instruction (00_scope.md R7). -/
abbrev PastInstr (i : Instr) (s t : State) : Prop :=
  t.pc = s.pc + BitVec.ofNat 16 (i.length s.widths)

/-- One of `n` pushes wraps `S[7:0]` in EMU8: a push at `S[7:0] = 0x00` (R307). -/
def PushWraps (s : State) (n : Nat) : Prop :=
  s.emu8 = true ∧ ∃ k, k < n ∧ (pushedS s k).setWidth 8 = 0x00#8

/-- One of `n` pulls wraps `S[7:0]` in EMU8: a pull at `S[7:0] = 0xFF` (R307). -/
def PullWraps (s : State) (n : Nat) : Prop :=
  s.emu8 = true ∧ ∃ k, k < n ∧ (pulledS s k).setWidth 8 = 0xFF#8

/-- The two-byte pointer at two addresses, low byte first (43_control_transfer.md R250). -/
def pointerAt (s : State) (lo hi : Nat) : Word16 := s.readByte hi ++ s.readByte lo

/-- The address `bank : off`, wrapping in the bank (20_memory.md R72). -/
def bankAddr (bank : Byte) (off : Nat) : Nat := bank.toNat * 65536 + off % 65536

/-- The address of byte `k` of a direct operand or pointer with an index: inside the page `D[15:8]` in
EMU8 with `D[7:0] = 0`, else inside Bank 0 (40_addressing_modes.md R134, R135, R136, R157). -/
def directAddr (s : State) (d8 : Byte) (index k : Nat) : Nat :=
  if s.emu8 = true ∧ s.d.toNat % 256 = 0 then
    s.d.toNat + (d8.toNat + index + k) % 256
  else (s.d.toNat + d8.toNat + index + k) % 65536

/-- `X[xw-1:0]` as a number. -/
def indexOfX (s : State) : Nat := s.x.toNat % 2 ^ s.xw.bits

/-- `Y[xw-1:0]` as a number. -/
def indexOfY (s : State) : Nat := s.y.toNat % 2 ^ s.xw.bits

/-- Digit `j` of a packed decimal number (42_arith_logic.md R212). -/
def digit (v j : Nat) : Nat := v / 16 ^ j % 16

/-- `dec(v)` of a packed decimal number of `k` digits (R212). -/
def decimalValue (v : Nat) : Nat → Nat
  | 0 => 0
  | k + 1 => decimalValue v k + digit v k * 10 ^ k

/-- Every one of the `k` digits is in 0..9 (R212). -/
def AllDigits (v k : Nat) : Prop := ∀ j, j < k → digit v j ≤ 9

/-- P has been written as a whole by `setP(v)` (44_stack_status_system.md R317). -/
abbrev StatusWritten (s t : State) (v : Byte) : Prop :=
  (∀ f : Flag, t.flag f =
    if s.emu8 = true ∧ (f = .m ∨ f = .x) then true else v.getLsbD f.pos) ∧
    (t.flag .x = true → t.x.toNat = s.x.toNat % 256 ∧ t.y.toNat = s.y.toNat % 256) ∧
    (t.flag .x = false → t.x = s.x ∧ t.y = s.y)

/-- A target at width `w` has been written with `v` and nothing else but P and PC has changed. -/
def TargetWritten (s t : State) (w : Width) (v : BitVec w.bits) : Target → Prop
  | .acc => t = { s with a := t.a, p := t.p, pc := t.pc } ∧ AccWritten s t w v ∧ MemoryKept s t
  | .mem m => t = { s with mem := t.mem, p := t.p, pc := t.pc } ∧
      Holds t (s.locate m).addr w.bytes v.toNat ∧ MemoryKeptOutside s t (s.locate m).addr w.bytes

/-- The bytes an interrupt sequence pushes, first one first (60_exceptions.md R350 to R353). -/
def frameBytes (s : State) (k : Interrupt) (ret : Word16) : List Byte :=
  if s.emu8 then
    [ret.extractLsb' 8 8, ret.extractLsb' 0 8,
      if k = .brk ∨ k = .cop then s.p ||| 0x10#8 else s.p &&& 0xEF#8]
  else [s.pbr, ret.extractLsb' 8 8, ret.extractLsb' 0 8, s.p]

/-- The vector's offset in Bank 0, as the table of rule R348 gives it. -/
def vectorOffset (s : State) (k : Interrupt) : Nat :=
  let offset := match k with
    | .cop => 0x4
    | .brk => 0x6
    | .abort => 0x8
    | .nmi => 0xA
    | .irq => 0xE
  match s.e16, s.e8 with
  | true, true => 0xFFF0 + (if k = .brk then 0xE else offset)
  | true, false => 0xFFE0 + offset
  | false, _ => 0xFFD0 + offset

/-- The interrupt sequence of a source with a return address has taken `s` to `t` (R350). -/
def InterruptTaken (s t : State) (k : Interrupt) (ret : Word16) : Prop :=
  t = { s with
    sp := t.sp, mem := t.mem, p := t.p, pbr := 0x00#8, pc := t.pc, waiting := false
    nmiPending := s.nmiPending && decide (k ≠ .nmi)
    abortPending := s.abortPending && decide (k ≠ .abort) } ∧
  Pushed s t (frameBytes s k ret) ∧
  t.flag .i = true ∧ t.flag .d = false ∧ FlagsKept s t [.i, .d] ∧
  t.pc = pointerAt t (vectorOffset s k) (vectorOffset s k + 1)

/-- The values of a RES- (10_state.md R47, 70_reset_and_hazards.md R390, R392), whatever the machine was
doing: every value the reset table gives, and nothing about what it does not initialise. -/
def ResetDone (s t : State) : Prop :=
  t.d = 0x0000#16 ∧ t.dbr = 0x00#8 ∧ t.pbr = 0x00#8 ∧ t.sp.extractLsb' 8 8 = 0x01#8 ∧
  t.x.extractLsb' 8 24 = 0#24 ∧ t.y.extractLsb' 8 24 = 0#24 ∧
  t.flag .m = true ∧ t.flag .x = true ∧ t.flag .d = false ∧ t.flag .i = true ∧
  t.e8 = true ∧ t.e16 = true ∧ t.waiting = false ∧ t.stopped = false ∧
  t.nmiPending = false ∧ t.abortPending = false ∧
  t.pc = pointerAt s 0xFFFC 0xFFFD

/-- What a step at a boundary does when no interrupt is due and no instruction is held off. -/
abbrev Fetches (s : State) : Prop :=
  s.stopped = false ∧ s.waiting = false ∧ s.abortPending = false ∧ s.nmiPending = false ∧
    (s.irqLow = true → s.flag .i = true)

/-- The interrupt that the boundary takes: ABORT- before NMI-, and NMI- before an IRQ- that P.I does not
mask (60_exceptions.md R343, R346, R347). -/
abbrev Due (s : State) (k : Interrupt) : Prop :=
  k = .abort ∧ s.abortPending = true ∨
    k = .nmi ∧ s.abortPending = false ∧ s.nmiPending = true ∨
    k = .irq ∧ s.abortPending = false ∧ s.nmiPending = false ∧ s.irqLow = true ∧
      s.flag .i = false

/-- `w` at a mode and one width flag (10_state.md R40): 8 if the flag is 1, else the mode's wide width. -/
def widthFor (flag : Bool) (wide : Width) : Width := if flag = true then .w8 else wide

end Sys2Proof.Claims

open Sys2Proof Sys2Proof.Machine Sys2Proof.Claims

/-! ### Encoding -/

/-- Rules R101, R102, R103, R106: decoding the bytes of a well-formed instruction gives the instruction
back and the bytes that follow it, for every value of XFE_OPCODE and every pair of widths. -/
def Obligations.DecodeOfEncodeIsTheInstruction : Prop :=
  ∀ (xfe : Option Byte) (w : Widths) (i : Instr) (rest : List Byte),
    WellFormedWith xfe w i = true →
      decodeWith xfe w (encodeWith xfe w i ++ rest) = .ok (i, rest)

/-- Rules R106, R107, R112: whatever the decoder reads is well formed, and its encoding is the bytes
that were read. -/
def Obligations.DecodedBytesAreTheEncoding : Prop :=
  ∀ (xfe : Option Byte) (w : Widths) (bytes : List Byte) (i : Instr) (rest : List Byte),
    decodeWith xfe w bytes = .ok (i, rest) →
      WellFormedWith xfe w i = true ∧ bytes = encodeWith xfe w i ++ rest

/-- Rule R104, with `XFE_OPCODE = 0x42` (log 6): every opcode byte decodes to the mnemonic and format of
its cell. -/
def Obligations.EveryOpcodeDecodesToItsMatrixCell : Prop :=
  ∀ (w : Widths) (o : OperandBytes) (op : Byte),
    ((matrix.getD (op.toNat / 16) []))[op.toNat % 16]? =
      some ((decodeOp w op o).mnemonic, (decodeOp w op o).format)

/-- Rule R102: the eight accumulator immediates take `mb` operand bytes and the four index immediates
`xb`, and no other instruction's length depends on the widths. -/
def Obligations.ImmediateLengthFollowsTheWidths : Prop :=
  ∀ (w w' : Widths) (o o' : OperandBytes) (op : Byte),
    if op ∈ [0x09#8, 0x29#8, 0x49#8, 0x69#8, 0x89#8, 0xA9#8, 0xC9#8, 0xE9#8] then
      (decodeOp w op o).length w = 1 + w.mw.bytes
    else if op ∈ [0xA0#8, 0xA2#8, 0xC0#8, 0xE0#8] then
      (decodeOp w op o).length w = 1 + w.xw.bytes
    else (decodeOp w op o).length w = (decodeOp w' op o').length w'

/-- Words written out from the encodings of the spec decode to their instructions: `A9 34 12` (R171,
`mw = 16`), `8D FF 20` (R174), `44 01 02` (R156), `5C 34 12 02` (R262) and `42`, which is XFE by the
model's choice of `XFE_OPCODE = 0x42`, the spec's default (R106, decision D4, log 6). -/
def Obligations.WrittenOutWordsDecode : Prop :=
  decode { mw := .w16, xw := .w8 } [0xA9#8, 0x34#8, 0x12#8] = .ok (.ldaImm 0x1234#32, []) ∧
  decode { mw := .w8, xw := .w8 } [0x8D#8, 0xFF#8, 0x20#8] = .ok (.staAbs 0x20FF#16, []) ∧
  decode { mw := .w8, xw := .w8 } [0x44#8, 0x01#8, 0x02#8] = .ok (.mvp 0x01#8 0x02#8, []) ∧
  decode { mw := .w8, xw := .w8 } [0x5C#8, 0x34#8, 0x12#8, 0x02#8] = .ok (.jmlLong 0x021234#24, []) ∧
  decode { mw := .w8, xw := .w8 } [0x42#8, 0x00#8] = .ok (.xfe, [0x00#8])

/-! ### The step, reset, the invariant -/

/-- Rules R7 and R346: where no interrupt is due and the processor neither waits nor is stopped, and the
bytes at `PBR:PC` decode to `i`, the step executes `i` on the state with the opcode latched in the
Instruction Register and a fresh index of free values (the model's own, log 13); what follows is the
sample of the input pins (log 17), and with no sample left to take the step is exactly that execution. -/
def Obligations.StepExecutesTheDecodedInstruction : Prop :=
  ∀ (s : State) (i : Instr) (rest : List Byte), Fetches s →
    decode s.widths ((List.range 5).map fun k => s.readByte (bankAddr s.pbr (s.pc.toNat + k))) =
      .ok (i, rest) →
    let s' : State :=
      { s with ir := s.readByte (bankAddr s.pbr s.pc.toNat), draw := s.draw + 1 }
    (∀ t, exec i s' = .next t → step s = .next (s'.sampleAfter t)) ∧
    (∀ r, exec i s' = .refused r → step s = .refused r) ∧
    (s.inputs = [] → step s = exec i s')

/-- Rules R47 and R392, the values the spec gives: the state after reset, whose PC is what memory holds
at the reset vector. -/
def Obligations.ResetStateHoldsTheResetTable : Prop := ResetDone State.reset State.reset

/-- Rules R390 and R342: a step whose sample shows RES- low ends in the reset state, whatever the machine
was doing, if it ends in a state at all. Memory is as the step left it: the reset writes nothing, and it
reads its vector from it. A stopped or waiting processor leaves memory alone, an interrupt that is due
leaves its frame, and an instruction what it wrote, unless ABORT- hit it too and its writes were blocked.
That a reset acts at the end of a step is the model's choice (log 20), and so is an ABORT- sample's word
on the writes (log 18). -/
def Obligations.ResetInputInitialisesTheMachine : Prop :=
  ∀ (s t : State) (pin : PinSample) (rest : List PinSample),
    s.inputs = pin :: rest → pin.resLow = true → step s = .next t →
      ResetDone t t ∧ t.inputs = rest ∧
      (s.stopped = true → t.mem = s.mem) ∧
      (∀ k, s.stopped = false → Due s k → ∃ u, InterruptTaken s u k s.pc ∧ t.mem = u.mem) ∧
      (Fetches { s with waiting := false } → s.waiting = true → t.mem = s.mem) ∧
      (Fetches s → ∃ u, exec s.fetchInstr s.latched = .next u ∧
        t.mem = if pin.abort = .writesBlocked then s.mem else u.mem)

/-- The invariant holds after reset. Its memory clause is about the model's own choice of empty memory
(log 3); the other clauses hold of the values of the reset table, whatever log 2 chooses beside them. -/
def Obligations.ResetStateSatisfiesTheInvariant : Prop := State.reset.Inv

/-- Rules R23, R25, R35: from every state in which M = X = 1 and `S[15:8] = 01` in EMU8, the upper bytes
of the index registers are zero while P.X = 1 and memory is in canonical form, every step leads to such
a state. The canonical form of memory is the model's own (log 3). -/
def Obligations.EveryStepKeepsTheInvariant : Prop :=
  ∀ s t : State, s.Inv → step s = .next t → t.Inv

/-! ### Memory and addresses -/

/-- Rules R79 and R131: a value written at a place is read back there, its bytes lie with the least
significant at the first address, a read is the little-endian value of its bytes, and no other byte
changes. Rules R132 and R148: an immediate operand, A and a memory operand are what the instructions
read as their source or target: the low bits of the immediate and of A, and the bytes where the operand
lies. -/
def Obligations.StoredValueIsReadBackLittleEndian : Prop :=
  ∀ (s : State) (l : Loc) (w : Width) (v : BitVec w.bits) (m : AddrMode) (imm : Word32),
    (s.writeWidth l w v).readWidth l w = v ∧
    Holds (s.writeWidth l w v) l.addr w.bytes v.toNat ∧
    (s.readWidth l w).toNat = bytesAt s l.addr w.bytes ∧
    MemoryKeptOutside s (s.writeWidth l w v) l.addr w.bytes ∧
    sourceOf (.immA imm) = some (.imm imm) ∧ sourceOf (.immX imm) = some (.imm imm) ∧
    sourceOf (.addr m) = some (.mem m) ∧ targetOf (.addr m) = some (.mem m) ∧
    targetOf .acc = some .acc ∧
    (s.sourceValue (.imm imm) w).toNat = imm.toNat % 2 ^ w.bits ∧
    (s.sourceValue (.mem m) w).toNat = bytesAt s (s.locate m).addr w.bytes ∧
    (s.targetValue (.mem m) w).toNat = bytesAt s (s.locate m).addr w.bytes ∧
    (s.targetValue .acc w).toNat = s.a.toNat % 2 ^ w.bits

/-- Rules R131 (b), R133, R137, R138, R139, R140: the bytes of an absolute or absolute long operand, with
ADDR_BITS = 24 (log 5). -/
def Obligations.AbsoluteOperandsLieInTheLinearSpace : Prop :=
  ∀ (s : State) (a : Word16) (al : Long24) (k : Nat),
    (s.locate (.abs a)).addr k = (s.dbr.toNat * 65536 + a.toNat + k) % 2 ^ 24 ∧
    (s.locate (.absX a)).addr k = (s.dbr.toNat * 65536 + a.toNat + indexOfX s + k) % 2 ^ 24 ∧
    (s.locate (.absY a)).addr k = (s.dbr.toNat * 65536 + a.toNat + indexOfY s + k) % 2 ^ 24 ∧
    (s.locate (.long al)).addr k = (al.toNat + k) % 2 ^ 24 ∧
    (s.locate (.longX al)).addr k = (al.toNat + indexOfX s + k) % 2 ^ 24

/-- Rules R131 (a), R134, R135, R136, R157: the bytes of a direct operand. -/
def Obligations.DirectOperandsStayInBankZeroOrTheirPage : Prop :=
  ∀ (s : State) (d8 : Byte) (k : Nat),
    (s.locate (.dir d8)).addr k = directAddr s d8 0 k ∧
    (s.locate (.dirX d8)).addr k = directAddr s d8 (indexOfX s) k ∧
    (s.locate (.dirY d8)).addr k = directAddr s d8 (indexOfY s) k

/-- Rules R141 to R145, with ADDR_BITS = 24 (log 5): the bytes of an operand reached through a direct
pointer. In the EMU8 case of
`(d,x)` that rule R157 leaves open (`D[7:0]` not 0 and `d8 + X[7:0]` past 255) the pointer is some
16-bit value, the model's free one (log 15). -/
def Obligations.DirectPointersGiveTheEffectiveAddress : Prop :=
  ∀ (s : State) (d8 : Byte) (k : Nat),
    let ptr (index : Nat) : Nat := bytesAt s (directAddr s d8 index) 2
    let long : Nat := bytesAt s (fun j => (s.d.toNat + d8.toNat + j) % 65536) 3
    (s.locate (.ind d8)).addr k = (s.dbr.toNat * 65536 + ptr 0 + k) % 2 ^ 24 ∧
    (s.locate (.indY d8)).addr k = (s.dbr.toNat * 65536 + ptr 0 + indexOfY s + k) % 2 ^ 24 ∧
    (s.locate (.indLong d8)).addr k = (long + k) % 2 ^ 24 ∧
    (s.locate (.indLongY d8)).addr k = (long + indexOfY s + k) % 2 ^ 24 ∧
    (if s.emu8 = true ∧ s.d.toNat % 256 ≠ 0 ∧ 255 < d8.toNat + s.x.toNat % 256 then
      ∃ p : Word16, ∀ j,
        (s.locate (.indX d8)).addr j = (s.dbr.toNat * 65536 + p.toNat + j) % 2 ^ 24
    else
      (s.locate (.indX d8)).addr k = (s.dbr.toNat * 65536 + ptr (indexOfX s) + k) % 2 ^ 24)

/-- Rules R146, R147: the bytes of a stack relative operand, in every mode a 16-bit sum in Bank 0, and of
an operand reached through a stack relative pointer, with ADDR_BITS = 24 (log 5). That these modes are not
refused in EMU8, though U5 names them, is the model's reading (DEDUCED, log 16). -/
def Obligations.StackRelativeOperandsUseSixteenBitSums : Prop :=
  ∀ (s : State) (d8 : Byte) (k : Nat),
    (s.locate (.sr d8)).addr k = (s.sp.toNat + d8.toNat + k) % 65536 ∧
    (s.locate (.srIndY d8)).addr k =
      (s.dbr.toNat * 65536 + bytesAt s (fun j => (s.sp.toNat + d8.toNat + j) % 65536) 2 +
        indexOfY s + k) % 2 ^ 24

/-! ### Loads, stores, transfers -/

/-- Rule R171: LDA, in every form, loads A at `mw` and sets N and Z, and changes nothing else. -/
def Obligations.LdaLoadsTheAccumulator : Prop :=
  ∀ (i : Instr) (s : State), i.mnemonic = .lda →
    cell i ∈ cellsOf .lda ∧ ∃ src t, sourceOf i.operand = some src ∧ exec i s = .next t ∧
      t = { s with a := t.a, p := t.p, pc := t.pc } ∧
      AccWritten s t s.mw (s.sourceValue src s.mw) ∧ NZFrom t (s.sourceValue src s.mw) ∧
      FlagsKept s t [.n, .z] ∧ MemoryKept s t ∧ PastInstr i s t

/-- Rules R172, R173: LDX and LDY, in every form, load their register at `xw` and set N and Z, and change
nothing else. -/
def Obligations.LdxAndLdyLoadTheIndexRegisters : Prop :=
  ∀ (i : Instr) (s : State), i.mnemonic = .ldx ∨ i.mnemonic = .ldy →
    cell i ∈ cellsOf i.mnemonic ∧ ∃ src t, sourceOf i.operand = some src ∧ exec i s = .next t ∧
      (i.mnemonic = .ldx → t = { s with x := t.x, p := t.p, pc := t.pc } ∧
        IndexWritten t.x s.xw (s.sourceValue src s.xw)) ∧
      (i.mnemonic = .ldy → t = { s with y := t.y, p := t.p, pc := t.pc } ∧
        IndexWritten t.y s.xw (s.sourceValue src s.xw)) ∧
      NZFrom t (s.sourceValue src s.xw) ∧
      FlagsKept s t [.n, .z] ∧ MemoryKept s t ∧ PastInstr i s t

/-- Rules R174 to R177: STA, STX, STY and STZ, in every form, store their register at its width, or zero,
at the operand's bytes, and change nothing else but PC; no flag is written. -/
def Obligations.StoresWriteTheirOperandAlone : Prop :=
  ∀ (i : Instr) (s : State),
    (∀ n v : Nat,
      (i.mnemonic = .sta ∧ n = s.mw.bytes ∧ v = s.a.toNat ∨
        i.mnemonic = .stx ∧ n = s.xw.bytes ∧ v = s.x.toNat ∨
        i.mnemonic = .sty ∧ n = s.xw.bytes ∧ v = s.y.toNat ∨
        i.mnemonic = .stz ∧ n = s.mw.bytes ∧ v = 0) →
      cell i ∈ cellsOf i.mnemonic ∧ ∃ m t, i.operand = .addr m ∧ exec i s = .next t ∧
        t = { s with mem := t.mem, pc := t.pc } ∧
        Holds t (s.locate m).addr n v ∧ MemoryKeptOutside s t (s.locate m).addr n ∧
        PastInstr i s t)

/-- Rules R178, R179, R182, R183, R184: TAX, TAY, TXY, TYX and TSX write the destination at `xw` with the
low bits of the source, of which S has 16, and set N and Z, and change nothing else. -/
def Obligations.TransfersToTheIndexRegisters : Prop :=
  ∀ (i : Instr) (s : State) (v : Nat),
    (i = .tax ∧ v = s.a.toNat ∨ i = .tyx ∧ v = s.y.toNat ∨ i = .tsx ∧ v = s.sp.toNat ∨
      i = .tay ∧ v = s.a.toNat ∨ i = .txy ∧ v = s.x.toNat) →
    cell i ∈ cellsOf i.mnemonic ∧ ∃ t, exec i s = .next t ∧
      (i = .tax ∨ i = .tyx ∨ i = .tsx → t = { s with x := t.x, p := t.p, pc := t.pc } ∧
        IndexWritten t.x s.xw (BitVec.ofNat s.xw.bits v)) ∧
      (i = .tay ∨ i = .txy → t = { s with y := t.y, p := t.p, pc := t.pc } ∧
        IndexWritten t.y s.xw (BitVec.ofNat s.xw.bits v)) ∧
      NZFrom t (BitVec.ofNat s.xw.bits v) ∧
      FlagsKept s t [.n, .z] ∧ MemoryKept s t ∧ t.pc = s.pc + 1#16

/-- Rules R180, R181, R187, R189, R190: TXA and TYA write A at `mw` with the low bits of the index
register; TDC, TSC and XBA write `A[15:0]` whatever `mw` is; all set N and Z, XBA from the new low byte,
and change nothing else. -/
def Obligations.TransfersToTheAccumulator : Prop :=
  ∀ (i : Instr) (s : State) (w : Width) (v : Nat),
    (i = .txa ∧ w = s.mw ∧ v = s.x.toNat ∨ i = .tya ∧ w = s.mw ∧ v = s.y.toNat ∨
      i = .tdc ∧ w = .w16 ∧ v = s.d.toNat ∨ i = .tsc ∧ w = .w16 ∧ v = s.sp.toNat ∨
      i = .xba ∧ w = .w16 ∧ v = s.a.toNat % 256 * 256 + s.a.toNat / 256 % 256) →
    cell i ∈ cellsOf i.mnemonic ∧ ∃ t, exec i s = .next t ∧
      t = { s with a := t.a, p := t.p, pc := t.pc } ∧
      AccWritten s t w (BitVec.ofNat w.bits v) ∧
      (i ≠ .xba → NZFrom t (BitVec.ofNat w.bits v)) ∧
      (i = .xba → NZFrom t (BitVec.ofNat 8 v)) ∧
      FlagsKept s t [.n, .z] ∧ MemoryKept s t ∧ t.pc = s.pc + 1#16

/-- Rules R185, R186, R188: TXS and TCS write S, in EMU8 its low byte with the high byte 01, and no flag;
TCD writes D and sets N and Z from 16 bits; nothing else changes. -/
def Obligations.TransfersToTheStackPointerAndDirectRegister : Prop :=
  ∀ (i : Instr) (s : State),
    (∀ v : Nat, (i = .txs ∧ v = s.x.toNat ∨ i = .tcs ∧ v = s.a.toNat) →
      cell i ∈ cellsOf i.mnemonic ∧ ∃ t, exec i s = .next t ∧
        t = { s with sp := t.sp, pc := s.pc + 1#16 } ∧ MemoryKept s t ∧
        t.sp.toNat = if s.emu8 = true then 0x100 + v % 256 else v % 65536) ∧
    (i = .tcd → cell i ∈ cellsOf .tcd ∧ ∃ t, exec i s = .next t ∧
      t = { s with d := t.d, p := t.p, pc := s.pc + 1#16 } ∧ MemoryKept s t ∧
      t.d.toNat = s.a.toNat % 65536 ∧ NZFrom t t.d ∧ FlagsKept s t [.n, .z])

/-! ### Arithmetic and logic -/

/-- Rule R211 with P.D = 0: ADC, in every form, in binary mode. -/
def Obligations.AdcAddsInBinaryMode : Prop :=
  ∀ (i : Instr) (s : State), i.mnemonic = .adc → s.flag .d = false →
    cell i ∈ cellsOf .adc ∧ ∃ src t, sourceOf i.operand = some src ∧ exec i s = .next t ∧
      let a := s.a.toNat % 2 ^ s.mw.bits
      let m := (s.sourceValue src s.mw).toNat
      let sum := a + m + (s.flag .c).toNat
      let r := BitVec.ofNat s.mw.bits sum
      t = { s with a := t.a, p := t.p, pc := t.pc } ∧ AccWritten s t s.mw r ∧ NZFrom t r ∧
      t.flag .c = decide (2 ^ s.mw.bits ≤ sum) ∧
      t.flag .v = (a.testBit (s.mw.bits - 1) == m.testBit (s.mw.bits - 1) &&
        sum.testBit (s.mw.bits - 1) != a.testBit (s.mw.bits - 1)) ∧
      FlagsKept s t [.n, .v, .z, .c] ∧ MemoryKept s t ∧ PastInstr i s t

/-- Rule R213 with P.D = 0: SBC, in every form, in binary mode. C is 1 exactly when no borrow occurs. -/
def Obligations.SbcSubtractsInBinaryMode : Prop :=
  ∀ (i : Instr) (s : State), i.mnemonic = .sbc → s.flag .d = false →
    cell i ∈ cellsOf .sbc ∧ ∃ src t, sourceOf i.operand = some src ∧ exec i s = .next t ∧
      let a : Int := (s.a.toNat % 2 ^ s.mw.bits : Nat)
      let m : Int := (s.sourceValue src s.mw).toNat
      let diff : Int := a - m - (1 - (s.flag .c).toNat)
      let r := BitVec.ofInt s.mw.bits diff
      t = { s with a := t.a, p := t.p, pc := t.pc } ∧ AccWritten s t s.mw r ∧ NZFrom t r ∧
      t.flag .c = decide (0 ≤ diff) ∧
      t.flag .v = (s.a.getLsbD (s.mw.bits - 1) !=
          (s.sourceValue src s.mw).getLsbD (s.mw.bits - 1) &&
        r.getLsbD (s.mw.bits - 1) != s.a.getLsbD (s.mw.bits - 1)) ∧
      FlagsKept s t [.n, .v, .z, .c] ∧ MemoryKept s t ∧ PastInstr i s t

/-- Rule R212 on valid digits: ADC in decimal mode. The statement says nothing of V, which the rule
leaves unspecified. -/
def Obligations.AdcAddsDecimalDigits : Prop :=
  ∀ (i : Instr) (s : State), i.mnemonic = .adc → s.flag .d = true →
    ∃ src t, sourceOf i.operand = some src ∧ exec i s = .next t ∧
      let k := s.mw.bits / 4
      let a := s.a.toNat % 2 ^ s.mw.bits
      let m := (s.sourceValue src s.mw).toNat
      let sum := decimalValue a k + decimalValue m k + (s.flag .c).toNat
      let r := t.a.setWidth s.mw.bits
      t = { s with a := t.a, p := t.p, pc := t.pc } ∧
      FlagsKept s t [.n, .v, .z, .c] ∧ MemoryKept s t ∧ PastInstr i s t ∧
      (AllDigits a k → AllDigits m k →
        AllDigits r.toNat k ∧ decimalValue r.toNat k = sum % 10 ^ k ∧ AccWritten s t s.mw r ∧
          NZFrom t r ∧ t.flag .c = decide (10 ^ k ≤ sum))

/-- Rule R212 on valid digits: SBC in decimal mode. The statement says nothing of V, which the rule
leaves unspecified. -/
def Obligations.SbcSubtractsDecimalDigits : Prop :=
  ∀ (i : Instr) (s : State), i.mnemonic = .sbc → s.flag .d = true →
    ∃ src t, sourceOf i.operand = some src ∧ exec i s = .next t ∧
      let k := s.mw.bits / 4
      let a := s.a.toNat % 2 ^ s.mw.bits
      let m := (s.sourceValue src s.mw).toNat
      let diff : Int := decimalValue a k - decimalValue m k - (1 - (s.flag .c).toNat)
      let r := t.a.setWidth s.mw.bits
      t = { s with a := t.a, p := t.p, pc := t.pc } ∧
      FlagsKept s t [.n, .v, .z, .c] ∧ MemoryKept s t ∧ PastInstr i s t ∧
      (AllDigits a k → AllDigits m k →
        AllDigits r.toNat k ∧ (decimalValue r.toNat k : Int) = diff % 10 ^ k ∧
          AccWritten s t s.mw r ∧ NZFrom t r ∧ t.flag .c = decide (0 ≤ diff))

/-- Rules R214, R215, R216: CMP, CPX and CPY, in every form, compare in binary whatever P.D is, write N, Z
and C, and change nothing else. -/
def Obligations.ComparesSetNZCAlone : Prop :=
  ∀ (i : Instr) (s : State) (w : Width) (reg : Word32),
    (i.mnemonic = .cmp ∧ w = s.mw ∧ reg = s.a ∨ i.mnemonic = .cpx ∧ w = s.xw ∧ reg = s.x ∨
      i.mnemonic = .cpy ∧ w = s.xw ∧ reg = s.y) →
    cell i ∈ cellsOf i.mnemonic ∧ ∃ src t, sourceOf i.operand = some src ∧ exec i s = .next t ∧
      let a := reg.toNat % 2 ^ w.bits
      let m := (s.sourceValue src w).toNat
      t = { s with p := t.p, pc := t.pc } ∧
      NZFrom t (BitVec.ofNat w.bits (a + 2 ^ w.bits - m)) ∧ t.flag .c = decide (m ≤ a) ∧
      FlagsKept s t [.n, .z, .c] ∧ MemoryKept s t ∧ PastInstr i s t

/-- Rules R217, R218, R219: AND, ORA and EOR, in every form, write A at `mw`, N and Z, and nothing else. -/
def Obligations.LogicOperationsWriteTheAccumulator : Prop :=
  ∀ (i : Instr) (s : State),
    i.mnemonic = .and ∨ i.mnemonic = .ora ∨ i.mnemonic = .eor →
    cell i ∈ cellsOf i.mnemonic ∧ ∃ src t, sourceOf i.operand = some src ∧ exec i s = .next t ∧
      let a := s.a.setWidth s.mw.bits
      let m := s.sourceValue src s.mw
      let r := if i.mnemonic = .and then a &&& m else if i.mnemonic = .ora then a ||| m else a ^^^ m
      t = { s with a := t.a, p := t.p, pc := t.pc } ∧ AccWritten s t s.mw r ∧ NZFrom t r ∧
      FlagsKept s t [.n, .z] ∧ MemoryKept s t ∧ PastInstr i s t

/-- Rule R220: BIT writes Z from the AND; its memory forms also copy bits `w-1` and `w-2` of the operand
to N and V, and the immediate form leaves N and V alone; nothing else changes. -/
def Obligations.BitTestsWithoutWriting : Prop :=
  ∀ (i : Instr) (s : State), i.mnemonic = .bit →
    cell i ∈ cellsOf .bit ∧ ∃ src t, sourceOf i.operand = some src ∧ exec i s = .next t ∧
      let m := s.sourceValue src s.mw
      t = { s with p := t.p, pc := t.pc } ∧
      t.flag .z = decide ((s.a.setWidth s.mw.bits &&& m).toNat = 0) ∧
      (i.format = .imm → FlagsKept s t [.z]) ∧
      (i.format ≠ .imm → t.flag .n = m.getLsbD (s.mw.bits - 1) ∧
        t.flag .v = m.getLsbD (s.mw.bits - 2) ∧ FlagsKept s t [.z, .n, .v]) ∧
      MemoryKept s t ∧ PastInstr i s t

/-- Rules R221, R222: INC and DEC, on A or memory, write the target with the value plus or minus 1 modulo
`2^w`, N and Z, and nothing else; C and V are not written. -/
def Obligations.IncAndDecWrapAtTheirWidth : Prop :=
  ∀ (i : Instr) (s : State), i.mnemonic = .inc ∨ i.mnemonic = .dec →
    cell i ∈ cellsOf i.mnemonic ∧ ∃ tgt t, targetOf i.operand = some tgt ∧ exec i s = .next t ∧
      let v := (s.targetValue tgt s.mw).toNat
      let r := BitVec.ofNat s.mw.bits (if i.mnemonic = .inc then v + 1 else v + 2 ^ s.mw.bits - 1)
      TargetWritten s t s.mw r tgt ∧ NZFrom t r ∧ FlagsKept s t [.n, .z] ∧ PastInstr i s t

/-- Rules R223 to R226: INX, INY, DEX and DEY write their register at `xw`, N and Z, and nothing else. -/
def Obligations.IndexIncrementsWrapAtTheirWidth : Prop :=
  ∀ (i : Instr) (s : State) (v : Nat),
    (i = .inx ∧ v = s.x.toNat + 1 ∨ i = .dex ∧ v = s.x.toNat + 2 ^ 32 - 1 ∨
      i = .iny ∧ v = s.y.toNat + 1 ∨ i = .dey ∧ v = s.y.toNat + 2 ^ 32 - 1) →
    cell i ∈ cellsOf i.mnemonic ∧ ∃ t, exec i s = .next t ∧
      let r := BitVec.ofNat s.xw.bits v
      (i = .inx ∨ i = .dex → t = { s with x := t.x, p := t.p, pc := t.pc } ∧
        IndexWritten t.x s.xw r) ∧
      (i = .iny ∨ i = .dey → t = { s with y := t.y, p := t.p, pc := t.pc } ∧
        IndexWritten t.y s.xw r) ∧
      NZFrom t r ∧ FlagsKept s t [.n, .z] ∧ MemoryKept s t ∧ t.pc = s.pc + 1#16

/-- Rules R227 to R230: ASL, LSR, ROL and ROR, on A or memory, shift by one bit, put the bit shifted out
in C, and set N and Z from the result; nothing else changes. -/
def Obligations.ShiftsMoveOneBitThroughCarry : Prop :=
  ∀ (i : Instr) (s : State),
    i.mnemonic = .asl ∨ i.mnemonic = .lsr ∨ i.mnemonic = .rol ∨ i.mnemonic = .ror →
    cell i ∈ cellsOf i.mnemonic ∧ ∃ tgt t, targetOf i.operand = some tgt ∧ exec i s = .next t ∧
      ∀ r : BitVec s.mw.bits,
        (∀ b, b < s.mw.bits → r.getLsbD b =
          let v := s.targetValue tgt s.mw
          if i.mnemonic = .asl then (decide (0 < b) && v.getLsbD (b - 1))
          else if i.mnemonic = .lsr then v.getLsbD (b + 1)
          else if i.mnemonic = .rol then (if b = 0 then s.flag .c else v.getLsbD (b - 1))
          else (if b = s.mw.bits - 1 then s.flag .c else v.getLsbD (b + 1))) →
        TargetWritten s t s.mw r tgt ∧ NZFrom t r ∧
        t.flag .c = (s.targetValue tgt s.mw).getLsbD
          (if i.mnemonic = .asl ∨ i.mnemonic = .rol then s.mw.bits - 1 else 0) ∧
        FlagsKept s t [.n, .z, .c] ∧ PastInstr i s t

/-- Rules R231, R232: TSB and TRB set Z from `a AND m` and write `m OR a` or `m AND NOT a` back to memory;
A and the other flags are not changed. -/
def Obligations.TsbAndTrbWriteTheOperandBack : Prop :=
  ∀ (i : Instr) (s : State), i.mnemonic = .tsb ∨ i.mnemonic = .trb →
    cell i ∈ cellsOf i.mnemonic ∧ ∃ mode t, i.operand = .addr mode ∧ exec i s = .next t ∧
      let a := s.a.setWidth s.mw.bits
      let m := s.sourceValue (.mem mode) s.mw
      let r := if i.mnemonic = .tsb then m ||| a else m &&& ~~~a
      TargetWritten s t s.mw r (.mem mode) ∧ t.flag .z = decide ((a &&& m).toNat = 0) ∧
      FlagsKept s t [.z] ∧ PastInstr i s t

/-! ### Control transfer -/

namespace Sys2Proof.Claims

/-- The condition of a relative branch (43_control_transfer.md R251 to R259). -/
def branchTaken (s : State) : Mnemonic → Option Bool
  | .bcc => some (!s.flag .c)
  | .bcs => some (s.flag .c)
  | .beq => some (s.flag .z)
  | .bne => some (!s.flag .z)
  | .bmi => some (s.flag .n)
  | .bpl => some (!s.flag .n)
  | .bvc => some (!s.flag .v)
  | .bvs => some (s.flag .v)
  | .bra => some true
  | _ => none

end Sys2Proof.Claims

/-- Rules R251 to R259 and R268: the eight conditional branches and BRA add the signed displacement to
`PCnext` when taken, modulo 65536 in the same bank, and change nothing but PC. -/
def Obligations.BranchesAddTheDisplacementWhenTaken : Prop :=
  ∀ (i : Instr) (s : State) (taken : Bool), branchTaken s i.mnemonic = some taken →
    cell i ∈ cellsOf i.mnemonic ∧ ∃ r8 t, i.operand = .rel r8 ∧ exec i s = .next t ∧
      t = { s with pc := t.pc } ∧ MemoryKept s t ∧
      (t.pc.toNat : Int) =
        ((s.pc.toNat : Int) + 2 + (if taken then r8.toInt else 0)) % 65536

/-- Rules R260, R261, R262: BRL, JMP and JML change nothing but PC, and JML also PBR; pointers of `(a)`
and `[a]` come from Bank 0, those of `(a,x)` from the program bank, each wrapping in its bank. -/
def Obligations.JumpsSetTheProgramCounter : Prop :=
  ∀ (s : State) (a : Word16) (al : Long24),
    exec (.brl a) s = .next { s with pc := s.pc + 3#16 + a } ∧
    exec (.jmpAbs a) s = .next { s with pc := a } ∧
    exec (.jmpAbsInd a) s =
      .next { s with pc := pointerAt s a.toNat ((a.toNat + 1) % 65536) } ∧
    exec (.jmpAbsIndX a) s =
      .next { s with
        pc := pointerAt s (bankAddr s.pbr (a.toNat + indexOfX s))
          (bankAddr s.pbr (a.toNat + indexOfX s + 1)) } ∧
    exec (.jmlLong al) s =
      .next { s with pc := al.extractLsb' 0 16, pbr := al.extractLsb' 16 8 } ∧
    exec (.jmlAbsIndLong a) s =
      .next { s with
        pc := pointerAt s a.toNat ((a.toNat + 1) % 65536)
        pbr := s.readByte ((a.toNat + 2) % 65536) }

/-- Rules R263, R264: JSR and JSL push the address of their last byte, JSL after PBR, and jump; JSR `(a,x)`
and JSL where no push wraps `S[7:0]` in EMU8 (R307). JSR `(a,x)` reads its pointer after it has pushed
(DEDUCED, log 31). -/
def Obligations.CallsPushTheAddressOfTheirLastByte : Prop :=
  ∀ (s : State) (a : Word16) (al : Long24),
    (∃ t, exec (.jsrAbs a) s = .next t ∧ t = { s with sp := t.sp, mem := t.mem, pc := a } ∧
      Pushed s t (highFirst (s.pc + 2#16).toNat 2)) ∧
    (¬ PushWraps s 2 → ∃ t, exec (.jsrAbsIndX a) s = .next t ∧
      t = { s with sp := t.sp, mem := t.mem, pc := t.pc } ∧
      Pushed s t (highFirst (s.pc + 2#16).toNat 2) ∧
      t.pc = pointerAt t (bankAddr s.pbr (a.toNat + indexOfX s))
        (bankAddr s.pbr (a.toNat + indexOfX s + 1))) ∧
    (¬ PushWraps s 3 → ∃ t, exec (.jsl al) s = .next t ∧
      t = { s with
        sp := t.sp, mem := t.mem, pc := al.extractLsb' 0 16, pbr := al.extractLsb' 16 8 } ∧
      Pushed s t (s.pbr :: highFirst (s.pc + 3#16).toNat 2))

/-- Rules R265, R266: RTS and RTL pull the address, low byte first, and add 1 to it, without a carry into
the bank that RTL pulls; RTL where no pull wraps `S[7:0]` in EMU8 (R307). -/
def Obligations.ReturnsPullTheAddressAndAddOne : Prop :=
  ∀ s : State,
    exec .rts s = .next { s with
      sp := pulledS s 2
      pc := BitVec.ofNat 16 (bytesAt s (pullAddr s) 2 + 1) } ∧
    (¬ PullWraps s 3 → exec .rtl s = .next { s with
      sp := pulledS s 3
      pc := BitVec.ofNat 16 (bytesAt s (pullAddr s) 2 + 1)
      pbr := s.readByte (pullAddr s 2) })

/-! ### Stack -/

/-- Rules R291 to R293: PHA, PHX and PHY push their register at its width, most significant byte first, and
change nothing but memory, S and PC. -/
def Obligations.RegisterPushesFollowTheWidths : Prop :=
  ∀ (i : Instr) (s : State) (n v : Nat),
    (i = .pha ∧ n = s.mw.bytes ∧ v = s.a.toNat ∨ i = .phx ∧ n = s.xw.bytes ∧ v = s.x.toNat ∨
      i = .phy ∧ n = s.xw.bytes ∧ v = s.y.toNat) →
    cell i ∈ cellsOf i.mnemonic ∧ ∃ t, exec i s = .next t ∧
      t = { s with sp := t.sp, mem := t.mem, pc := s.pc + 1#16 } ∧ Pushed s t (highFirst v n)

/-- Rules R294, R295, R297: PHP, PHB and PHK push one byte and change nothing but memory, S and PC. -/
def Obligations.BytePushesPushOneByte : Prop :=
  ∀ (i : Instr) (s : State) (v : Byte),
    (i = .php ∧ v = s.p ∨ i = .phb ∧ v = s.dbr ∨ i = .phk ∧ v = s.pbr) →
    cell i ∈ cellsOf i.mnemonic ∧ ∃ t, exec i s = .next t ∧
      t = { s with sp := t.sp, mem := t.mem, pc := s.pc + 1#16 } ∧ Pushed s t [v]

/-- Rules R296, R304, R305, R306: PHD, PEA, PEI and PER push 16 bits whatever the widths are, where no push
wraps `S[7:0]` in EMU8 (R307), and change nothing but memory, S and PC. PEI's pointer never wraps in a
page (R157). -/
def Obligations.WordPushesPushSixteenBits : Prop :=
  ∀ (i : Instr) (s : State) (v : Nat) (a : Word16) (d8 : Byte),
    (i = .phd ∧ v = s.d.toNat ∨ i = .pea a ∧ v = a.toNat ∨
      i = .pei d8 ∧ v = bytesAt s (fun k => (s.d.toNat + d8.toNat + k) % 65536) 2 ∨
      i = .per a ∧ v = (s.pc.toNat + 3 + a.toNat) % 65536) →
    ¬ PushWraps s 2 →
    cell i ∈ cellsOf i.mnemonic ∧ ∃ t, exec i s = .next t ∧
      t = { s with sp := t.sp, mem := t.mem, pc := t.pc } ∧
      Pushed s t (highFirst v 2) ∧ PastInstr i s t

namespace Sys2Proof.Claims

/-- The instructions of rule R307 that push, and how many bytes. -/
def wrapPushes (i : Instr) : Option Nat :=
  if i.mnemonic ∈ [.pea, .pei, .per, .phd] then some 2
  else if i.mnemonic = .jsr ∧ i.format = .absIndX then some 2
  else if i.mnemonic = .jsl then some 3
  else none

/-- The instructions of rule R307 that pull, and how many bytes. -/
def wrapPulls (i : Instr) : Option Nat :=
  if i.mnemonic = .plb then some 1
  else if i.mnemonic = .pld then some 2
  else if i.mnemonic = .rtl then some 3
  else none

end Sys2Proof.Claims

/-- Rule R307: in EMU8, the stack instructions that the 6502 does not have are refused exactly when one of
their pushes or pulls would wrap `S[7:0]`. -/
def Obligations.WrappingStackInstructionsAreRefused : Prop :=
  ∀ (i : Instr) (s : State) (n : Nat),
    (wrapPushes i = some n → (exec i s = .refused .stackPageWrap ↔ PushWraps s n)) ∧
    (wrapPulls i = some n → (exec i s = .refused .stackPageWrap ↔ PullWraps s n))

/-- Rules R298 to R300: PLA, PLX and PLY pull their register at its width, the first byte the least
significant, set N and Z, and change nothing else but S and PC. -/
def Obligations.RegisterPullsFollowTheWidths : Prop :=
  ∀ s : State,
    (∃ t, exec .pla s = .next t ∧ t = { s with a := t.a, p := t.p, sp := t.sp, pc := s.pc + 1#16 } ∧
      let v := BitVec.ofNat s.mw.bits (bytesAt s (pullAddr s) s.mw.bytes)
      t.sp = pulledS s s.mw.bytes ∧ AccWritten s t s.mw v ∧ NZFrom t v ∧
      FlagsKept s t [.n, .z] ∧ MemoryKept s t) ∧
    (∃ t, exec .plx s = .next t ∧ t = { s with x := t.x, p := t.p, sp := t.sp, pc := s.pc + 1#16 } ∧
      let v := BitVec.ofNat s.xw.bits (bytesAt s (pullAddr s) s.xw.bytes)
      t.sp = pulledS s s.xw.bytes ∧ IndexWritten t.x s.xw v ∧ NZFrom t v ∧
      FlagsKept s t [.n, .z] ∧ MemoryKept s t) ∧
    (∃ t, exec .ply s = .next t ∧ t = { s with y := t.y, p := t.p, sp := t.sp, pc := s.pc + 1#16 } ∧
      let v := BitVec.ofNat s.xw.bits (bytesAt s (pullAddr s) s.xw.bytes)
      t.sp = pulledS s s.xw.bytes ∧ IndexWritten t.y s.xw v ∧ NZFrom t v ∧
      FlagsKept s t [.n, .z] ∧ MemoryKept s t)

/-- Rules R301, R302, R303: PLP writes P by `setP`; PLB and PLD write DBR and D and set N and Z, where no
pull wraps `S[7:0]` in EMU8 (R307); nothing else but S and PC changes. -/
def Obligations.PullsOfStatusBankAndDirectRegister : Prop :=
  ∀ s : State,
    (∃ t, exec .plp s = .next t ∧
      t = { s with p := t.p, x := t.x, y := t.y, sp := pulledS s 1, pc := s.pc + 1#16 } ∧
      StatusWritten s t (s.readByte (pullAddr s 0)) ∧ MemoryKept s t) ∧
    (¬ PullWraps s 1 → ∃ t, exec .plb s = .next t ∧
      t = { s with
        dbr := s.readByte (pullAddr s 0)
        p := t.p
        sp := pulledS s 1
        pc := s.pc + 1#16 } ∧
      NZFrom t t.dbr ∧ FlagsKept s t [.n, .z] ∧ MemoryKept s t) ∧
    (¬ PullWraps s 2 → ∃ t, exec .pld s = .next t ∧
      t = { s with
        d := BitVec.ofNat 16 (bytesAt s (pullAddr s) 2)
        p := t.p
        sp := pulledS s 2
        pc := s.pc + 1#16 } ∧
      NZFrom t t.d ∧ FlagsKept s t [.n, .z] ∧ MemoryKept s t)

/-! ### Status and mode -/

/-- Rules R308 to R314: CLC, SEC, CLD, SED, CLI, SEI and CLV write one flag and change nothing else but PC. -/
def Obligations.FlagInstructionsWriteOneFlag : Prop :=
  ∀ (i : Instr) (s : State) (f : Flag) (b : Bool),
    (i, f, b) ∈ [(.clc, .c, false), (.sec, .c, true), (.cld, .d, false), (.sed, .d, true),
      (.cli, .i, false), (.sei, .i, true), (.clv, .v, false)] →
    cell i ∈ cellsOf i.mnemonic ∧ ∃ t, exec i s = .next t ∧
      t = { s with p := t.p, pc := s.pc + 1#16 } ∧ t.flag f = b ∧ FlagsKept s t [f] ∧
      MemoryKept s t

/-- Rules R315, R316, R317: REP clears and SEP sets the flags of their mask; in EMU8 M and X stay 1; with
X = 1 the upper bytes of the index registers are cleared; nothing else but PC changes. -/
def Obligations.RepAndSepWriteTheMaskedFlags : Prop :=
  ∀ (i : Instr) (s : State) (m8 v : Byte),
    (i = .rep m8 ∧ v = s.p &&& ~~~m8 ∨ i = .sep m8 ∧ v = s.p ||| m8) →
    cell i ∈ cellsOf i.mnemonic ∧ ∃ t, exec i s = .next t ∧
      t = { s with p := t.p, x := t.x, y := t.y, pc := s.pc + 2#16 } ∧ StatusWritten s t v ∧
      MemoryKept s t

/-- Rules R318, R319, R39: XCE exchanges E8 with C, and XFE also E16 with V; entering EMU8 forces M, X, the
upper bytes of the index registers and the high byte of S; otherwise no other register changes, and A
never. That XFE stands at 42 is `XFE_OPCODE` at its default (decision D4, log 6), and R39's effects for XFE
and the NATIVE rows are the spec's own decision D5. -/
def Obligations.ModeExchangesSwapFlagsAndForceEmu8 : Prop :=
  ∀ (i : Instr) (s : State), i = .xce ∨ i = .xfe →
    cell i ∈ cellsOf i.mnemonic ∧ ∃ t, exec i s = .next t ∧
      t = { s with
        e8 := s.flag .c, e16 := t.e16, p := t.p, x := t.x, y := t.y, sp := t.sp
        pc := s.pc + 1#16 } ∧
      t.flag .c = s.e8 ∧
      (i = .xce → t.e16 = s.e16 ∧ t.flag .v = s.flag .v) ∧
      (i = .xfe → t.e16 = s.flag .v ∧ t.flag .v = s.e16) ∧
      FlagsKept s t [.c, .v, .m, .x] ∧ MemoryKept s t ∧
      (if t.e16 = true ∧ t.e8 = true then
        t.flag .m = true ∧ t.flag .x = true ∧ t.x.toNat = s.x.toNat % 256 ∧
          t.y.toNat = s.y.toNat % 256 ∧ t.sp.toNat = 0x100 + s.sp.toNat % 256
      else
        t.flag .m = s.flag .m ∧ t.flag .x = s.flag .x ∧ t.x = s.x ∧ t.y = s.y ∧ t.sp = s.sp)

/-! ### Interrupts and system -/

/-- Rules R320, R321, R354, R350: BRK and COP run the interrupt sequence with the return address two past
the opcode, whatever P.I and the signature byte are, with VECTORS and NATIVE_FRAME at their defaults
(logs 8 and 9). -/
def Obligations.BrkAndCopTakeTheirInterrupt : Prop :=
  ∀ (s : State) (sig : Byte),
    (∃ t, exec (.brk sig) s = .next t ∧ InterruptTaken s t .brk (s.pc + 2#16)) ∧
    (∃ t, exec (.cop sig) s = .next t ∧ InterruptTaken s t .cop (s.pc + 2#16))

/-- Rule R322: RTI pulls P through `setP`, then PC low byte first, and outside EMU8 PBR; E8 and E16 are not
changed, and 1 is not added. In NATIVE the frame is the default of NATIVE_FRAME (log 9). -/
def Obligations.RtiPullsTheFrameOfItsMode : Prop :=
  ∀ s : State, ∃ t, exec .rti s = .next t ∧
    t = { s with
      p := t.p, x := t.x, y := t.y
      sp := pulledS s (if s.emu8 then 3 else 4)
      pc := pointerAt s (pullAddr s 1) (pullAddr s 2)
      pbr := if s.emu8 then s.pbr else s.readByte (pullAddr s 3) } ∧
    StatusWritten s t (s.readByte (pullAddr s 0)) ∧ MemoryKept s t

/-- Rule R356: from a state that meets the invariant, the interrupt sequence of any source and an RTI
straight after it give back P, S, X and Y, the return address as PC, and outside EMU8 PBR, and leave A, D,
DBR, E8 and E16 as they were, with NATIVE_FRAME at its default (log 9). The statement says
nothing of memory, of the wait latch, or of PBR in EMU8, which do not come back. -/
def Obligations.RtiUndoesAnInterrupt : Prop :=
  ∀ (s t u : State) (k : Interrupt) (ret : Word16), s.Inv →
    t = s.takeInterrupt k ret → exec .rti t = .next u →
      u.p = s.p ∧ u.sp = s.sp ∧ u.x = s.x ∧ u.y = s.y ∧ u.a = s.a ∧ u.d = s.d ∧ u.dbr = s.dbr ∧
        u.pc = ret ∧ u.e8 = s.e8 ∧ u.e16 = s.e16 ∧ (s.emu8 = false → u.pbr = s.pbr)

/-- Rules R323 to R326: WAI, STP, NOP and WDM advance PC, WAI and STP set their latch, and nothing else
changes. -/
def Obligations.WaitStopAndNoOperations : Prop :=
  ∀ (s : State) (skip : Byte),
    exec .wai s = .next { s with pc := s.pc + 1#16, waiting := true } ∧
    exec .stp s = .next { s with pc := s.pc + 1#16, stopped := true } ∧
    exec .nop s = .next { s with pc := s.pc + 1#16 } ∧
    exec (.wdm skip) s = .next { s with pc := s.pc + 2#16 }

/-- Rules R327, R328, R156: one step of MVN or MVP moves one byte between the banks at the offsets of X
and Y, of 8 bits if `xw = 8` and else of 16, steps X and Y up or down, counts `A[15:0]` down, leaves DBR
at the destination bank, and repeats until the count has run out. -/
def Obligations.BlockMovesMoveOneByteAStep : Prop :=
  ∀ (i : Instr) (s : State) (dst src : Byte) (down : Bool),
    (i = .mvn dst src ∧ down = false ∨ i = .mvp dst src ∧ down = true) →
    cell i ∈ cellsOf i.mnemonic ∧ ∃ t, exec i s = .next t ∧
      let k := if s.xw = .w8 then 8 else 16
      let stepped (v : Nat) : Nat := (v + (if down then 2 ^ 32 - 1 else 1)) % 2 ^ k
      let dest := dst.toNat * 65536 + s.y.toNat % 2 ^ k
      t = { s with
        a := t.a, x := t.x, y := t.y, dbr := dst, mem := t.mem, pc := t.pc } ∧
      t.readByte dest = s.readByte (src.toNat * 65536 + s.x.toNat % 2 ^ k) ∧
      MemoryKeptOutside s t (fun _ => dest) 1 ∧
      t.x.toNat % 2 ^ k = stepped s.x.toNat ∧ t.y.toNat % 2 ^ k = stepped s.y.toNat ∧
      (s.xw = .w8 → t.x.extractLsb' 8 24 = 0#24 ∧ t.y.extractLsb' 8 24 = 0#24) ∧
      t.a.toNat % 65536 = (s.a.toNat + 65535) % 65536 ∧
      t.pc = if t.a.toNat % 65536 = 0xFFFF then s.pc + 3#16 else s.pc

/-- Rules R346, R347, R343, R344, R350: at the boundary of a processor that is not stopped, waiting or not,
ABORT- comes before NMI- and NMI- before IRQ-, which P.I masks; the sequence's return address is PC,
and the sample of the pins follows (log 17), with VECTORS and NATIVE_FRAME at their defaults (logs 8
and 9). -/
def Obligations.BoundaryTakesInterruptsByPriority : Prop :=
  ∀ (s : State) (k : Interrupt), s.stopped = false →
    Due s k → ∃ t, step s = .next t.sample ∧ InterruptTaken s t k s.pc

/-- Rules R366 and R367: a wait goes on until an interrupt is due or IRQ- is low with P.I = 1, which ends it
without a sequence; a stopped processor changes nothing until RES-, whatever the other inputs do. That
these are steps of the machine is the model's choice (log 21). -/
def Obligations.WaitingAndStoppedExecuteNothing : Prop :=
  ∀ s : State,
    (s.stopped = false → s.waiting = true → s.abortPending = false → s.nmiPending = false →
      (s.irqLow = true → s.flag .i = true) →
      step s = .next (State.sample { s with waiting := !s.irqLow })) ∧
    (s.stopped = true → s.inputs = [] → step s = .next s) ∧
    (∀ pin rest, s.stopped = true → s.inputs = pin :: rest → pin.resLow = false →
      step s = .next { s with inputs := rest, irqLow := pin.irqLow })

/-- Rules R343, R344, R345 (92 D16): a sample without RES- latches an NMI- edge and an ABORT- pulse, sets
the level of IRQ-, and is used up. The sample's place in the step is the model's (log 17). -/
def Obligations.SamplesLatchTheInputs : Prop :=
  ∀ (s : State) (pin : PinSample) (rest : List PinSample), s.inputs = pin :: rest →
    pin.resLow = false →
    s.sample = { s with
      inputs := rest, irqLow := pin.irqLow
      nmiPending := s.nmiPending || pin.nmiEdge
      abortPending := s.abortPending || decide (pin.abort ≠ .none) }

/-- Rules R345, R362, R358: an instruction that ABORT- hits modifies no register; its memory writes have
reached memory, where they are those of the instruction, or not, as the sample says (the model's choice,
log 18); and the next boundary takes the ABORT- sequence with the address of the aborted opcode. -/
def Obligations.AbortedInstructionModifiesNoRegister : Prop :=
  ∀ (s u : State) (pin : PinSample) (rest : List PinSample), Fetches s →
    s.inputs = pin :: rest → pin.abort ≠ .none → pin.resLow = false → step s = .next u →
      u = { s with
        ir := u.ir, draw := u.draw, mem := u.mem, inputs := rest, irqLow := pin.irqLow
        nmiPending := pin.nmiEdge, abortPending := true } ∧
      (pin.abort = .writesBlocked → u.mem = s.mem) ∧
      (∃ v, exec s.fetchInstr s.latched = .next v ∧ (pin.abort = .writesLand → u.mem = v.mem)) ∧
      ∃ t, step u = .next t.sample ∧ InterruptTaken u t .abort s.pc

/-! ### Whole-machine rules -/

/-- Rule R28 with R320 and R321: the only instructions that change PBR are RTI, RTL, JML and JSL, and BRK
and COP through the interrupt sequence. -/
def Obligations.OnlyLongTransfersChangeTheProgramBank : Prop :=
  ∀ (i : Instr) (s t : State), exec i s = .next t → t.pbr ≠ s.pbr →
    i.mnemonic ∈ [.rti, .rtl, .jml, .jsl, .brk, .cop]

/-- Rule R37: no instruction but XCE and XFE changes E8, and none but XFE changes E16; and rule R28, R26,
R27: DBR is written by PLB, MVN and MVP alone, and D by TCD and PLD alone. -/
def Obligations.OnlyNamedInstructionsChangeModeAndBankRegisters : Prop :=
  ∀ (i : Instr) (s t : State), exec i s = .next t →
    (t.e8 ≠ s.e8 → i.mnemonic ∈ [.xce, .xfe]) ∧ (t.e16 ≠ s.e16 → i.mnemonic = .xfe) ∧
    (t.dbr ≠ s.dbr → i.mnemonic ∈ [.plb, .mvn, .mvp]) ∧ (t.d ≠ s.d → i.mnemonic ∈ [.tcd, .pld])

/-- Rule R340: no instruction and no step faults. Rule R307: a stack instruction it names is refused where
it would wrap `S[7:0]` in EMU8. That this is the ONE way the machine stops is the model's: the spec would
also let it refuse the open pointer of `(d,x)` (U6, log 15), a wrapping `d,s` or `(d,s),y` (U5, log 16), and
an access outside the loaded image (U18, log 4). -/
def Obligations.OnlyStackPageWrapStopsTheMachine : Prop :=
  (∀ (i : Instr) (s : State), (∃ t, exec i s = .next t) ∨
    exec i s = .refused .stackPageWrap ∧ ∃ n,
      wrapPushes i = some n ∧ PushWraps s n ∨ wrapPulls i = some n ∧ PullWraps s n) ∧
  (∀ s : State, (∃ t, step s = .next t) ∨
    step s = .refused .stackPageWrap ∧ ∃ n,
      wrapPushes s.fetchInstr = some n ∧ PushWraps s n ∨
        wrapPulls s.fetchInstr = some n ∧ PullWraps s n)

/-- Rules R43, R44, R346: no instruction touches the input pins' state, the Instruction Register or the
host's samples; the pending latches are cleared by their sequences alone, and the wait and stop latches
are set by WAI and STP alone. -/
def Obligations.InstructionsLeaveTheInputStateAlone : Prop :=
  ∀ (i : Instr) (s t : State), exec i s = .next t →
    t.inputs = s.inputs ∧ t.irqLow = s.irqLow ∧ t.nmiPending = s.nmiPending ∧
      t.abortPending = s.abortPending ∧ t.ir = s.ir ∧ t.draw = s.draw ∧
      (t.stopped ≠ s.stopped → i = .stp) ∧
      (t.waiting = true → s.waiting = false → i = .wai)

/-- Rules R30, R38 and R40: where the flags stand in P, the mode that E16 and E8 select
(decision D5), and the widths in each mode, with WIDTH_TABLE at its default (log 7); in EMU8 they are 8
in every state (log 29 of states with M or X clear there). -/
def Obligations.WidthsFollowTheModeAndFlags : Prop :=
  ∀ s : State,
    (s.flag .n = s.p.getLsbD 7 ∧ s.flag .v = s.p.getLsbD 6 ∧ s.flag .m = s.p.getLsbD 5 ∧
      s.flag .x = s.p.getLsbD 4 ∧ s.flag .d = s.p.getLsbD 3 ∧ s.flag .i = s.p.getLsbD 2 ∧
      s.flag .z = s.p.getLsbD 1 ∧ s.flag .c = s.p.getLsbD 0) ∧
    (s.emu8 = true ↔ s.e16 = true ∧ s.e8 = true) ∧
    (s.e16 = true → s.e8 = true → s.mode = .emu8 ∧ s.mw = .w8 ∧ s.xw = .w8) ∧
    (s.e16 = true → s.e8 = false → s.mode = .emu16 ∧
      s.mw = widthFor (s.flag .m) .w16 ∧ s.xw = widthFor (s.flag .x) .w16) ∧
    (s.e16 = false → s.mode = .native ∧
      s.mw = widthFor (s.flag .m) (if s.e8 = true then .w32 else .w16) ∧
      s.xw = widthFor (s.flag .x) .w32) ∧
    s.widths = { mw := s.mw, xw := s.xw } ∧
    [Width.w8.bytes, Width.w16.bytes, Width.w32.bytes] = [1, 2, 4] ∧
    ∀ w : Width, w.bits = 8 * w.bytes
end

