-- ==== Sys2Proof/Laws/Flags.lean ====
section
/-! SUPPORT. The flags of P: what a write of one flag does to each flag, and the arithmetic behind the flag
computations. -/

namespace Sys2Proof

theorem Width.bits_eq (w : Width) : w.bits = 8 * w.bytes := by cases w <;> rfl

theorem Width.bits_pos (w : Width) : 0 < w.bits := by cases w <;> decide

theorem Width.two_pow_bits (w : Width) : 2 ^ w.bits = 256 ^ w.bytes := by cases w <;> rfl

theorem Width.bytes_le (w : Width) : w.bytes ≤ 4 := by cases w <;> decide

end Sys2Proof

namespace Sys2Proof.Machine

theorem Flag.pos_injective {f g : Flag} (h : f.pos = g.pos) : f = g := by
  cases f <;> cases g <;> first | rfl | cases h

theorem Flag.pos_lt (f : Flag) : f.pos < 8 := by cases f <;> decide

/-- Every bit of P is a flag. -/
theorem Flag.exists_pos {n : Nat} (h : n < 8) : ∃ f : Flag, f.pos = n := by
  match n, h with
  | 0, _ => exact ⟨.c, rfl⟩
  | 1, _ => exact ⟨.z, rfl⟩
  | 2, _ => exact ⟨.i, rfl⟩
  | 3, _ => exact ⟨.d, rfl⟩
  | 4, _ => exact ⟨.x, rfl⟩
  | 5, _ => exact ⟨.m, rfl⟩
  | 6, _ => exact ⟨.v, rfl⟩
  | 7, _ => exact ⟨.n, rfl⟩

/-- One flag of a byte after `withFlag`. -/
theorem withFlag_bit (p : Byte) (f g : Flag) (b : Bool) :
    (withFlag p f b).getLsbD g.pos = if g = f then b else p.getLsbD g.pos := by
  cases b <;> cases f <;> cases g <;> simp [withFlag, Flag.pos]

/-- Two bytes with the same flags are equal. -/
theorem status_ext {p q : Byte} (h : ∀ f : Flag, p.getLsbD f.pos = q.getLsbD f.pos) : p = q := by
  refine BitVec.eq_of_getLsbD_eq fun i hi => ?_
  obtain ⟨f, rfl⟩ := Flag.exists_pos hi
  exact h f

/-- One flag after a write of a flag. -/
@[simp] theorem flag_setFlag (s : State) (f g : Flag) (b : Bool) :
    (s.setFlag f b).flag g = if g = f then b else s.flag g := withFlag_bit s.p f g b

/-- The flags after `setNZ` (00_scope.md R6). -/
@[simp] theorem flag_setNZ (s : State) {n : Nat} (v : BitVec n) (g : Flag) :
    (s.setNZ v).flag g = if g = .z then v == 0#n else if g = .n then v.msb else s.flag g := by
  simp [State.setNZ]

/-- The flags after ADC or SBC (42_arith_logic.md R211). -/
@[simp] theorem flag_setNVZC (s : State) {n : Nat} (r : AluResult n) (g : Flag) :
    (s.setNVZC r).flag g =
      if g = .c then r.c else if g = .z then r.z else if g = .v then r.v
      else if g = .n then r.n else s.flag g := by
  simp [State.setNVZC]

/-- The flags after a compare (R214). -/
@[simp] theorem flag_setCompare (s : State) {n : Nat} (a m : BitVec n) (g : Flag) :
    (s.setCompare a m).flag g =
      if g = .c then decide (m.toNat ≤ a.toNat) else if g = .z then a - m == 0#n
      else if g = .n then (a - m).msb else s.flag g := by
  simp [State.setCompare]

/-- The sign bit is bit `n - 1`. -/
theorem msb_eq_bit {n : Nat} (v : BitVec n) : v.msb = v.getLsbD (n - 1) :=
  BitVec.msb_eq_getLsbD_last v

/-- The zero test of a bit vector is the zero test of its value. -/
theorem beq_zero_eq {n : Nat} (v : BitVec n) : (v == 0#n) = decide (v.toNat = 0) := by
  rw [Bool.eq_iff_iff]
  simp [← BitVec.toNat_inj]

/-- An append as a number: the left part above the right one. -/
theorem toNat_append_eq {m n : Nat} (x : BitVec m) (y : BitVec n) :
    (x ++ y).toNat = x.toNat * 2 ^ n + y.toNat := by
  rw [BitVec.toNat_append, ← Nat.shiftLeft_add_eq_or_of_lt y.isLt, Nat.shiftLeft_eq]

/-- Two bytes as a 16-bit number. -/
theorem toNat_append16 (hi lo : Byte) :
    (hi ++ lo : Word16).toNat = hi.toNat * 256 + lo.toNat := toNat_append_eq hi lo

/-- A bank byte and an offset as a 24-bit number. -/
theorem toNat_append24 (hi : Byte) (lo : Word16) :
    (hi ++ lo : Long24).toNat = hi.toNat * 65536 + lo.toNat := toNat_append_eq hi lo

/-- A byte above 24 bits as a 32-bit number. -/
theorem toNat_append32 (hi : Byte) (lo : Long24) :
    (hi ++ lo : Word32).toNat = hi.toNat * 16777216 + lo.toNat := toNat_append_eq hi lo

end Sys2Proof.Machine
end

