-- ==== Sys2Proof/Laws/Memory.lean ====
section
/-! SUPPORT. Memory: a byte reads as it was last written, a write leaves every other byte alone, and every
memory operation keeps the canonical form. -/

namespace Sys2Proof.Machine

@[simp] theorem Memory.read_nil (a : Nat) : Memory.read [] a = Config.unlistedByte a := rfl

theorem Memory.read_cons (k : Nat) (v : Byte) (m : Memory) (a : Nat) :
    Memory.read ((k, v) :: m) a = if k = a then v else Memory.read m a := rfl

/-- An address that is not listed reads as an unlisted one. -/
theorem Memory.read_of_not_listed {m : Memory} {a : Nat} (h : ∀ c ∈ m, c.1 ≠ a) :
    m.read a = Config.unlistedByte a := by
  induction m with
  | nil => rfl
  | cons c m ih =>
    obtain ⟨k, v⟩ := c
    simp only [List.mem_cons, forall_eq_or_imp] at h
    rw [Memory.read_cons, if_neg h.1, ih h.2]

theorem Memory.mem_erase {m : Memory} {a : Nat} {c : Host.Cell} :
    c ∈ m.erase a ↔ c ∈ m ∧ c.1 ≠ a := by
  simp [Memory.erase]

theorem Memory.mem_insert {m : Memory} {a : Nat} {v : Byte} {c : Host.Cell} :
    c ∈ m.insert a v ↔ c = (a, v) ∨ c ∈ m := by
  induction m with
  | nil => simp [Memory.insert]
  | cons d m ih =>
    obtain ⟨k, w⟩ := d
    simp only [Memory.insert]
    split
    · simp
    · rw [List.mem_cons, ih, List.mem_cons]
      tauto

/-- What an erase leaves to read. -/
theorem Memory.read_erase (m : Memory) (a b : Nat) :
    (m.erase a).read b = if b = a then Config.unlistedByte a else m.read b := by
  split
  · rename_i h
    subst h
    exact Memory.read_of_not_listed fun c hc => (Memory.mem_erase.1 hc).2
  · rename_i h
    induction m with
    | nil => rfl
    | cons c m ih =>
      obtain ⟨k, v⟩ := c
      have key : Memory.erase ((k, v) :: m) a =
          if k = a then Memory.erase m a else (k, v) :: Memory.erase m a := by
        by_cases hk : k = a <;> simp [Memory.erase, hk]
      rw [key]
      split
      · subst k
        rw [ih, Memory.read_cons, if_neg (Ne.symm h)]
      · rw [Memory.read_cons, Memory.read_cons, ih]

/-- What an insert of an unlisted address leaves to read. -/
theorem Memory.read_insert (m : Memory) (a b : Nat) (v : Byte) (h : ∀ c ∈ m, c.1 ≠ a) :
    (m.insert a v).read b = if b = a then v else m.read b := by
  induction m with
  | nil => simp [Memory.insert, Memory.read_cons, eq_comm]
  | cons c m ih =>
    obtain ⟨k, w⟩ := c
    simp only [List.mem_cons, forall_eq_or_imp] at h
    simp only [Memory.insert]
    split
    · simp [Memory.read_cons, eq_comm]
    · rw [Memory.read_cons, ih h.2, Memory.read_cons]
      by_cases hb : b = a
      · subst hb
        simp [h.1]
      · simp [hb]

/-- Read after write. -/
theorem Memory.read_write (m : Memory) (a b : Nat) (v : Byte) :
    (m.write a v).read b = if b = a then v else m.read b := by
  unfold Memory.write
  split
  · rename_i h
    rw [Memory.read_erase, h]
  · rw [Memory.read_insert _ _ _ _ fun c hc => (Memory.mem_erase.1 hc).2, Memory.read_erase]
    split <;> rfl

theorem Memory.wf_nil : Memory.wf [] := by simp [Memory.wf]

/-- An erase keeps the canonical form. -/
theorem Memory.wf_erase {m : Memory} (h : m.wf) (a : Nat) : (m.erase a).wf :=
  ⟨h.1.filter _, fun c hc => h.2 c (Memory.mem_erase.1 hc).1⟩

/-- Inserting an unlisted address keeps the addresses rising. -/
theorem Memory.pairwise_insert {m : Memory} (h : m.Pairwise (fun c c' => c.1 < c'.1)) (a : Nat)
    (v : Byte) (ha : ∀ c ∈ m, c.1 ≠ a) : (m.insert a v).Pairwise (fun c c' => c.1 < c'.1) := by
  induction m with
  | nil => simp [Memory.insert]
  | cons c m ih =>
    obtain ⟨k, w⟩ := c
    simp only [List.mem_cons, forall_eq_or_imp] at ha
    rw [List.pairwise_cons] at h
    simp only [Memory.insert]
    split
    · rename_i hk
      rw [List.pairwise_cons, List.pairwise_cons]
      refine ⟨?_, h⟩
      intro c hc
      rcases List.mem_cons.1 hc with rfl | hc
      · exact hk
      · exact hk.trans (h.1 c hc)
    · rename_i hk
      rw [List.pairwise_cons]
      refine ⟨fun c hc => ?_, ih h.2 ha.2⟩
      rcases Memory.mem_insert.1 hc with rfl | hc
      · have := ha.1
        simp only at this hk ⊢
        omega
      · exact h.1 c hc

/-- A write inside the address space keeps the canonical form. -/
theorem Memory.wf_write {m : Memory} (h : m.wf) (a : Nat) (v : Byte) (ha : a < Config.addrSpace) :
    (m.write a v).wf := by
  unfold Memory.write
  split
  · exact Memory.wf_erase h a
  · rename_i hv
    refine ⟨Memory.pairwise_insert (Memory.wf_erase h a).1 a v
      fun c hc => (Memory.mem_erase.1 hc).2, fun c hc => ?_⟩
    rcases Memory.mem_insert.1 hc with rfl | hc
    · exact ⟨ha, hv⟩
    · exact (Memory.wf_erase h a).2 c hc

/-! ### The memory operations of the state -/

/-- A byte read after a byte written. -/
theorem readByte_writeByte (s : State) (a b : Nat) (v : Byte) :
    (s.writeByte a v).readByte b =
      if b % Config.addrSpace = a % Config.addrSpace then v else s.readByte b :=
  Memory.read_write s.mem (a % Config.addrSpace) (b % Config.addrSpace) v

/-- A read looks at the address modulo the address space alone. -/
theorem readByte_mod (s : State) (a : Nat) : s.readByte (a % Config.addrSpace) = s.readByte a := by
  simp [State.readByte]

/-- Reads are the same where the memory is. -/
theorem readByte_congr {s t : State} (h : t.mem = s.mem) (a : Nat) : t.readByte a = s.readByte a := by
  simp [State.readByte, h]

theorem wf_writeByte {s : State} (h : s.mem.wf) (a : Nat) (v : Byte) : (s.writeByte a v).mem.wf :=
  Memory.wf_write h _ v (Nat.mod_lt _ (by decide))

theorem wf_writeLE {s : State} (h : s.mem.wf) (l : Loc) (v n : Nat) : (s.writeLE l v n).mem.wf := by
  induction n with
  | zero => exact h
  | succ n ih => exact wf_writeByte ih _ _

theorem wf_writeWidth {s : State} (h : s.mem.wf) (l : Loc) (w : Width) (v : BitVec w.bits) :
    (s.writeWidth l w v).mem.wf := wf_writeLE h l _ _

/-- The addresses of an operand's bytes lie in the address space. -/
theorem Loc.addr_lt (l : Loc) (i : Nat) : l.addr i < Config.addrSpace := by
  cases l with
  | bank0 off => exact lt_of_lt_of_le (BitVec.isLt _) (by decide)
  | page hi lo => exact lt_of_lt_of_le (BitVec.isLt _) (by decide)
  | program bank off =>
    have h1 := bank.isLt
    have h2 := (off + BitVec.ofNat 16 i).isLt
    simp only [Loc.addr, Config.addrSpace, Config.addrBits]
    omega
  | linear ea => exact Nat.mod_lt _ (by decide)

/-- An operand of at most 256 bytes has its bytes at different addresses. -/
theorem Loc.addr_injective (l : Loc) {i j : Nat} (hi : i < 256) (hj : j < 256)
    (h : l.addr i = l.addr j) : i = j := by
  cases l with
  | bank0 off =>
    simp only [Loc.addr, BitVec.toNat_add, BitVec.toNat_ofNat] at h
    omega
  | page hi' lo =>
    simp only [Loc.addr, toNat_append_eq, BitVec.toNat_add, BitVec.toNat_ofNat] at h
    omega
  | program bank off =>
    simp only [Loc.addr, BitVec.toNat_add, BitVec.toNat_ofNat] at h
    omega
  | linear ea =>
    simp only [Loc.addr, Config.addrSpace, Config.addrBits] at h
    omega

/-- The bytes of a value written at a place, and every other byte as before (20_memory.md R79,
40_addressing_modes.md R131). -/
theorem readByte_writeLE (s : State) (l : Loc) (v n : Nat) (hn : n ≤ 256) :
    (∀ k, k < n → (s.writeLE l v n).readByte (l.addr k) = BitVec.ofNat 8 (v / 256 ^ k)) ∧
    (∀ a, (∀ k, k < n → a % Config.addrSpace ≠ l.addr k) →
      (s.writeLE l v n).readByte a = s.readByte a) := by
  induction n with
  | zero => exact ⟨fun k hk => absurd hk (Nat.not_lt_zero k), fun a _ => rfl⟩
  | succ n ih =>
    have ih := ih (by omega)
    have hmod (k : Nat) : l.addr k % Config.addrSpace = l.addr k := Nat.mod_eq_of_lt (l.addr_lt k)
    refine ⟨fun k hk => ?_, fun a ha => ?_⟩
    · rw [State.writeLE, readByte_writeByte, hmod, hmod]
      split
      · rename_i h
        rw [l.addr_injective (by omega) (by omega) h]
      · rename_i h
        exact ih.1 k (lt_of_le_of_ne (by omega) fun e => h (by rw [e]))
    · rw [State.writeLE, readByte_writeByte, hmod, if_neg (ha n (by omega))]
      exact ih.2 a fun k hk => ha k (by omega)

/-- Little-endian reading depends on the bytes alone. -/
theorem readLE_congr {s t : State} {l l' : Loc} (n : Nat)
    (h : ∀ k, k < n → t.readByte (l'.addr k) = s.readByte (l.addr k)) :
    t.readLE l' n = s.readLE l n := by
  induction n with
  | zero => rfl
  | succ n ih =>
    rw [State.readLE, State.readLE, ih fun k hk => h k (by omega), h n (by omega)]

/-- A read of `n` bytes is below `256 ^ n`. -/
theorem readLE_lt (s : State) (l : Loc) (n : Nat) : s.readLE l n < 256 ^ n := by
  induction n with
  | zero => simp [State.readLE]
  | succ n ih =>
    rw [State.readLE, Nat.pow_succ]
    have := (s.readByte (l.addr n)).isLt
    have h2 : (s.readByte (l.addr n)).toNat * 256 ^ n ≤ 255 * 256 ^ n :=
      Nat.mul_le_mul_right _ (by omega)
    omega

/-- A value read back after it was written (20_memory.md R79). -/
theorem readLE_writeLE (s : State) (l : Loc) (v n : Nat) (hn : n ≤ 256) :
    (s.writeLE l v n).readLE l n = v % 256 ^ n := by
  have key : ∀ k, k ≤ n → (s.writeLE l v n).readLE l k = v % 256 ^ k := by
    intro k
    induction k with
    | zero => intro _; simp [State.readLE, Nat.mod_one]
    | succ k ih =>
      intro hk
      rw [State.readLE, ih (by omega), (readByte_writeLE s l v n hn).1 k (by omega),
        BitVec.toNat_ofNat, pow_succ 256 k, Nat.mod_mul, Nat.mul_comm (256 ^ k)]
  exact key n le_rfl

theorem readWidth_writeWidth (s : State) (l : Loc) (w : Width) (v : BitVec w.bits) :
    (s.writeWidth l w v).readWidth l w = v := by
  have hw : w.bytes ≤ 256 := by cases w <;> decide
  rw [State.readWidth, State.writeWidth, readLE_writeLE s l _ _ hw, ← Width.two_pow_bits,
    Nat.mod_eq_of_lt v.isLt, BitVec.ofNat_toNat, BitVec.setWidth_eq]

/-- The value of a read is the little-endian number of its bytes. -/
theorem toNat_readWidth (s : State) (l : Loc) (w : Width) :
    (s.readWidth l w).toNat = s.readLE l w.bytes := by
  rw [State.readWidth, BitVec.toNat_ofNat, Width.two_pow_bits]
  exact Nat.mod_eq_of_lt (readLE_lt s l w.bytes)

end Sys2Proof.Machine
end

