-- ==== Sys2Proof/Laws/State.lean ====
section
/-! SUPPORT. What each update of the state leaves alone, one lemma for each field, so that no later proof
unfolds an update; and what follows for the flags, the mode, the widths and the bytes of memory. -/

namespace Sys2Proof.Machine

/-! ### `setFlag` -/

@[simp] theorem setFlag_a (s : State) (f : Flag) (b : Bool) : (s.setFlag f b).a = s.a := rfl

@[simp] theorem setFlag_x (s : State) (f : Flag) (b : Bool) : (s.setFlag f b).x = s.x := rfl

@[simp] theorem setFlag_y (s : State) (f : Flag) (b : Bool) : (s.setFlag f b).y = s.y := rfl

@[simp] theorem setFlag_sp (s : State) (f : Flag) (b : Bool) : (s.setFlag f b).sp = s.sp := rfl

@[simp] theorem setFlag_d (s : State) (f : Flag) (b : Bool) : (s.setFlag f b).d = s.d := rfl

@[simp] theorem setFlag_dbr (s : State) (f : Flag) (b : Bool) : (s.setFlag f b).dbr = s.dbr := rfl

@[simp] theorem setFlag_pbr (s : State) (f : Flag) (b : Bool) : (s.setFlag f b).pbr = s.pbr := rfl

@[simp] theorem setFlag_pc (s : State) (f : Flag) (b : Bool) : (s.setFlag f b).pc = s.pc := rfl

@[simp] theorem setFlag_e8 (s : State) (f : Flag) (b : Bool) : (s.setFlag f b).e8 = s.e8 := rfl

@[simp] theorem setFlag_e16 (s : State) (f : Flag) (b : Bool) : (s.setFlag f b).e16 = s.e16 := rfl

@[simp] theorem setFlag_waiting (s : State) (f : Flag) (b : Bool) :
    (s.setFlag f b).waiting = s.waiting := rfl

@[simp] theorem setFlag_stopped (s : State) (f : Flag) (b : Bool) :
    (s.setFlag f b).stopped = s.stopped := rfl

@[simp] theorem setFlag_nmiPending (s : State) (f : Flag) (b : Bool) :
    (s.setFlag f b).nmiPending = s.nmiPending := rfl

@[simp] theorem setFlag_abortPending (s : State) (f : Flag) (b : Bool) :
    (s.setFlag f b).abortPending = s.abortPending := rfl

@[simp] theorem setFlag_irqLow (s : State) (f : Flag) (b : Bool) :
    (s.setFlag f b).irqLow = s.irqLow := rfl

@[simp] theorem setFlag_ir (s : State) (f : Flag) (b : Bool) : (s.setFlag f b).ir = s.ir := rfl

@[simp] theorem setFlag_mem (s : State) (f : Flag) (b : Bool) : (s.setFlag f b).mem = s.mem := rfl

@[simp] theorem setFlag_inputs (s : State) (f : Flag) (b : Bool) :
    (s.setFlag f b).inputs = s.inputs := rfl

@[simp] theorem setFlag_draw (s : State) (f : Flag) (b : Bool) :
    (s.setFlag f b).draw = s.draw := rfl

@[simp] theorem emu8_setFlag (s : State) (f : Flag) (b : Bool) :
    (s.setFlag f b).emu8 = s.emu8 := by simp [State.emu8]

@[simp] theorem mode_setFlag (s : State) (f : Flag) (b : Bool) :
    (s.setFlag f b).mode = s.mode := by simp [State.mode]

@[simp] theorem readByte_setFlag (s : State) (f : Flag) (b : Bool) (i : Nat) :
    (s.setFlag f b).readByte i = s.readByte i := by simp [State.readByte]

/-! ### `setNZ` -/

theorem setNZ_eq (s : State) {n : Nat} (v : BitVec n) :
    s.setNZ v =
      { s with
        p := (s.setNZ v).p } := rfl

@[simp] theorem setNZ_a (s : State) {n : Nat} (v : BitVec n) : (s.setNZ v).a = s.a := rfl

@[simp] theorem setNZ_x (s : State) {n : Nat} (v : BitVec n) : (s.setNZ v).x = s.x := rfl

@[simp] theorem setNZ_y (s : State) {n : Nat} (v : BitVec n) : (s.setNZ v).y = s.y := rfl

@[simp] theorem setNZ_sp (s : State) {n : Nat} (v : BitVec n) : (s.setNZ v).sp = s.sp := rfl

@[simp] theorem setNZ_d (s : State) {n : Nat} (v : BitVec n) : (s.setNZ v).d = s.d := rfl

@[simp] theorem setNZ_dbr (s : State) {n : Nat} (v : BitVec n) : (s.setNZ v).dbr = s.dbr := rfl

@[simp] theorem setNZ_pbr (s : State) {n : Nat} (v : BitVec n) : (s.setNZ v).pbr = s.pbr := rfl

@[simp] theorem setNZ_pc (s : State) {n : Nat} (v : BitVec n) : (s.setNZ v).pc = s.pc := rfl

@[simp] theorem setNZ_e8 (s : State) {n : Nat} (v : BitVec n) : (s.setNZ v).e8 = s.e8 := rfl

@[simp] theorem setNZ_e16 (s : State) {n : Nat} (v : BitVec n) : (s.setNZ v).e16 = s.e16 := rfl

@[simp] theorem setNZ_waiting (s : State) {n : Nat} (v : BitVec n) :
    (s.setNZ v).waiting = s.waiting := rfl

@[simp] theorem setNZ_stopped (s : State) {n : Nat} (v : BitVec n) :
    (s.setNZ v).stopped = s.stopped := rfl

@[simp] theorem setNZ_nmiPending (s : State) {n : Nat} (v : BitVec n) :
    (s.setNZ v).nmiPending = s.nmiPending := rfl

@[simp] theorem setNZ_abortPending (s : State) {n : Nat} (v : BitVec n) :
    (s.setNZ v).abortPending = s.abortPending := rfl

@[simp] theorem setNZ_irqLow (s : State) {n : Nat} (v : BitVec n) :
    (s.setNZ v).irqLow = s.irqLow := rfl

@[simp] theorem setNZ_ir (s : State) {n : Nat} (v : BitVec n) : (s.setNZ v).ir = s.ir := rfl

@[simp] theorem setNZ_mem (s : State) {n : Nat} (v : BitVec n) : (s.setNZ v).mem = s.mem := rfl

@[simp] theorem setNZ_inputs (s : State) {n : Nat} (v : BitVec n) :
    (s.setNZ v).inputs = s.inputs := rfl

@[simp] theorem setNZ_draw (s : State) {n : Nat} (v : BitVec n) : (s.setNZ v).draw = s.draw := rfl

@[simp] theorem emu8_setNZ (s : State) {n : Nat} (v : BitVec n) :
    (s.setNZ v).emu8 = s.emu8 := by simp [State.emu8]

@[simp] theorem mode_setNZ (s : State) {n : Nat} (v : BitVec n) :
    (s.setNZ v).mode = s.mode := by simp [State.mode]

@[simp] theorem mw_setNZ (s : State) {n : Nat} (v : BitVec n) :
    (s.setNZ v).mw = s.mw := by simp [State.mw]

@[simp] theorem xw_setNZ (s : State) {n : Nat} (v : BitVec n) :
    (s.setNZ v).xw = s.xw := by simp [State.xw]

@[simp] theorem readByte_setNZ (s : State) {n : Nat} (v : BitVec n) (i : Nat) :
    (s.setNZ v).readByte i = s.readByte i := by simp [State.readByte]

/-! ### `setNVZC` -/

theorem setNVZC_eq (s : State) {n : Nat} (r : AluResult n) :
    s.setNVZC r =
      { s with
        p := (s.setNVZC r).p } := rfl

@[simp] theorem setNVZC_a (s : State) {n : Nat} (r : AluResult n) : (s.setNVZC r).a = s.a := rfl

@[simp] theorem setNVZC_x (s : State) {n : Nat} (r : AluResult n) : (s.setNVZC r).x = s.x := rfl

@[simp] theorem setNVZC_y (s : State) {n : Nat} (r : AluResult n) : (s.setNVZC r).y = s.y := rfl

@[simp] theorem setNVZC_sp (s : State) {n : Nat} (r : AluResult n) : (s.setNVZC r).sp = s.sp := rfl

@[simp] theorem setNVZC_d (s : State) {n : Nat} (r : AluResult n) : (s.setNVZC r).d = s.d := rfl

@[simp] theorem setNVZC_dbr (s : State) {n : Nat} (r : AluResult n) :
    (s.setNVZC r).dbr = s.dbr := rfl

@[simp] theorem setNVZC_pbr (s : State) {n : Nat} (r : AluResult n) :
    (s.setNVZC r).pbr = s.pbr := rfl

@[simp] theorem setNVZC_pc (s : State) {n : Nat} (r : AluResult n) : (s.setNVZC r).pc = s.pc := rfl

@[simp] theorem setNVZC_e8 (s : State) {n : Nat} (r : AluResult n) : (s.setNVZC r).e8 = s.e8 := rfl

@[simp] theorem setNVZC_e16 (s : State) {n : Nat} (r : AluResult n) :
    (s.setNVZC r).e16 = s.e16 := rfl

@[simp] theorem setNVZC_waiting (s : State) {n : Nat} (r : AluResult n) :
    (s.setNVZC r).waiting = s.waiting := rfl

@[simp] theorem setNVZC_stopped (s : State) {n : Nat} (r : AluResult n) :
    (s.setNVZC r).stopped = s.stopped := rfl

@[simp] theorem setNVZC_nmiPending (s : State) {n : Nat} (r : AluResult n) :
    (s.setNVZC r).nmiPending = s.nmiPending := rfl

@[simp] theorem setNVZC_abortPending (s : State) {n : Nat} (r : AluResult n) :
    (s.setNVZC r).abortPending = s.abortPending := rfl

@[simp] theorem setNVZC_irqLow (s : State) {n : Nat} (r : AluResult n) :
    (s.setNVZC r).irqLow = s.irqLow := rfl

@[simp] theorem setNVZC_ir (s : State) {n : Nat} (r : AluResult n) : (s.setNVZC r).ir = s.ir := rfl

@[simp] theorem setNVZC_mem (s : State) {n : Nat} (r : AluResult n) :
    (s.setNVZC r).mem = s.mem := rfl

@[simp] theorem setNVZC_inputs (s : State) {n : Nat} (r : AluResult n) :
    (s.setNVZC r).inputs = s.inputs := rfl

@[simp] theorem setNVZC_draw (s : State) {n : Nat} (r : AluResult n) :
    (s.setNVZC r).draw = s.draw := rfl

@[simp] theorem emu8_setNVZC (s : State) {n : Nat} (r : AluResult n) :
    (s.setNVZC r).emu8 = s.emu8 := by simp [State.emu8]

@[simp] theorem mode_setNVZC (s : State) {n : Nat} (r : AluResult n) :
    (s.setNVZC r).mode = s.mode := by simp [State.mode]

@[simp] theorem mw_setNVZC (s : State) {n : Nat} (r : AluResult n) :
    (s.setNVZC r).mw = s.mw := by simp [State.mw]

@[simp] theorem xw_setNVZC (s : State) {n : Nat} (r : AluResult n) :
    (s.setNVZC r).xw = s.xw := by simp [State.xw]

@[simp] theorem readByte_setNVZC (s : State) {n : Nat} (r : AluResult n) (i : Nat) :
    (s.setNVZC r).readByte i = s.readByte i := by simp [State.readByte]

/-! ### `setCompare` -/

theorem setCompare_eq (s : State) {n : Nat} (u v : BitVec n) :
    s.setCompare u v =
      { s with
        p := (s.setCompare u v).p } := rfl

@[simp] theorem setCompare_a (s : State) {n : Nat} (u v : BitVec n) :
    (s.setCompare u v).a = s.a := rfl

@[simp] theorem setCompare_x (s : State) {n : Nat} (u v : BitVec n) :
    (s.setCompare u v).x = s.x := rfl

@[simp] theorem setCompare_y (s : State) {n : Nat} (u v : BitVec n) :
    (s.setCompare u v).y = s.y := rfl

@[simp] theorem setCompare_sp (s : State) {n : Nat} (u v : BitVec n) :
    (s.setCompare u v).sp = s.sp := rfl

@[simp] theorem setCompare_d (s : State) {n : Nat} (u v : BitVec n) :
    (s.setCompare u v).d = s.d := rfl

@[simp] theorem setCompare_dbr (s : State) {n : Nat} (u v : BitVec n) :
    (s.setCompare u v).dbr = s.dbr := rfl

@[simp] theorem setCompare_pbr (s : State) {n : Nat} (u v : BitVec n) :
    (s.setCompare u v).pbr = s.pbr := rfl

@[simp] theorem setCompare_pc (s : State) {n : Nat} (u v : BitVec n) :
    (s.setCompare u v).pc = s.pc := rfl

@[simp] theorem setCompare_e8 (s : State) {n : Nat} (u v : BitVec n) :
    (s.setCompare u v).e8 = s.e8 := rfl

@[simp] theorem setCompare_e16 (s : State) {n : Nat} (u v : BitVec n) :
    (s.setCompare u v).e16 = s.e16 := rfl

@[simp] theorem setCompare_waiting (s : State) {n : Nat} (u v : BitVec n) :
    (s.setCompare u v).waiting = s.waiting := rfl

@[simp] theorem setCompare_stopped (s : State) {n : Nat} (u v : BitVec n) :
    (s.setCompare u v).stopped = s.stopped := rfl

@[simp] theorem setCompare_nmiPending (s : State) {n : Nat} (u v : BitVec n) :
    (s.setCompare u v).nmiPending = s.nmiPending := rfl

@[simp] theorem setCompare_abortPending (s : State) {n : Nat} (u v : BitVec n) :
    (s.setCompare u v).abortPending = s.abortPending := rfl

@[simp] theorem setCompare_irqLow (s : State) {n : Nat} (u v : BitVec n) :
    (s.setCompare u v).irqLow = s.irqLow := rfl

@[simp] theorem setCompare_ir (s : State) {n : Nat} (u v : BitVec n) :
    (s.setCompare u v).ir = s.ir := rfl

@[simp] theorem setCompare_mem (s : State) {n : Nat} (u v : BitVec n) :
    (s.setCompare u v).mem = s.mem := rfl

@[simp] theorem setCompare_inputs (s : State) {n : Nat} (u v : BitVec n) :
    (s.setCompare u v).inputs = s.inputs := rfl

@[simp] theorem setCompare_draw (s : State) {n : Nat} (u v : BitVec n) :
    (s.setCompare u v).draw = s.draw := rfl

@[simp] theorem emu8_setCompare (s : State) {n : Nat} (u v : BitVec n) :
    (s.setCompare u v).emu8 = s.emu8 := by simp [State.emu8]

@[simp] theorem mode_setCompare (s : State) {n : Nat} (u v : BitVec n) :
    (s.setCompare u v).mode = s.mode := by simp [State.mode]

@[simp] theorem mw_setCompare (s : State) {n : Nat} (u v : BitVec n) :
    (s.setCompare u v).mw = s.mw := by simp [State.mw]

@[simp] theorem xw_setCompare (s : State) {n : Nat} (u v : BitVec n) :
    (s.setCompare u v).xw = s.xw := by simp [State.xw]

@[simp] theorem readByte_setCompare (s : State) {n : Nat} (u v : BitVec n) (i : Nat) :
    (s.setCompare u v).readByte i = s.readByte i := by simp [State.readByte]

/-! ### `setBitZ` -/

theorem setBitZ_eq (s : State) {n : Nat} (u v : BitVec n) :
    s.setBitZ u v =
      { s with
        p := (s.setBitZ u v).p } := rfl

@[simp] theorem setBitZ_a (s : State) {n : Nat} (u v : BitVec n) : (s.setBitZ u v).a = s.a := rfl

@[simp] theorem setBitZ_x (s : State) {n : Nat} (u v : BitVec n) : (s.setBitZ u v).x = s.x := rfl

@[simp] theorem setBitZ_y (s : State) {n : Nat} (u v : BitVec n) : (s.setBitZ u v).y = s.y := rfl

@[simp] theorem setBitZ_sp (s : State) {n : Nat} (u v : BitVec n) : (s.setBitZ u v).sp = s.sp := rfl

@[simp] theorem setBitZ_d (s : State) {n : Nat} (u v : BitVec n) : (s.setBitZ u v).d = s.d := rfl

@[simp] theorem setBitZ_dbr (s : State) {n : Nat} (u v : BitVec n) :
    (s.setBitZ u v).dbr = s.dbr := rfl

@[simp] theorem setBitZ_pbr (s : State) {n : Nat} (u v : BitVec n) :
    (s.setBitZ u v).pbr = s.pbr := rfl

@[simp] theorem setBitZ_pc (s : State) {n : Nat} (u v : BitVec n) : (s.setBitZ u v).pc = s.pc := rfl

@[simp] theorem setBitZ_e8 (s : State) {n : Nat} (u v : BitVec n) : (s.setBitZ u v).e8 = s.e8 := rfl

@[simp] theorem setBitZ_e16 (s : State) {n : Nat} (u v : BitVec n) :
    (s.setBitZ u v).e16 = s.e16 := rfl

@[simp] theorem setBitZ_waiting (s : State) {n : Nat} (u v : BitVec n) :
    (s.setBitZ u v).waiting = s.waiting := rfl

@[simp] theorem setBitZ_stopped (s : State) {n : Nat} (u v : BitVec n) :
    (s.setBitZ u v).stopped = s.stopped := rfl

@[simp] theorem setBitZ_nmiPending (s : State) {n : Nat} (u v : BitVec n) :
    (s.setBitZ u v).nmiPending = s.nmiPending := rfl

@[simp] theorem setBitZ_abortPending (s : State) {n : Nat} (u v : BitVec n) :
    (s.setBitZ u v).abortPending = s.abortPending := rfl

@[simp] theorem setBitZ_irqLow (s : State) {n : Nat} (u v : BitVec n) :
    (s.setBitZ u v).irqLow = s.irqLow := rfl

@[simp] theorem setBitZ_ir (s : State) {n : Nat} (u v : BitVec n) : (s.setBitZ u v).ir = s.ir := rfl

@[simp] theorem setBitZ_mem (s : State) {n : Nat} (u v : BitVec n) :
    (s.setBitZ u v).mem = s.mem := rfl

@[simp] theorem setBitZ_inputs (s : State) {n : Nat} (u v : BitVec n) :
    (s.setBitZ u v).inputs = s.inputs := rfl

@[simp] theorem setBitZ_draw (s : State) {n : Nat} (u v : BitVec n) :
    (s.setBitZ u v).draw = s.draw := rfl

@[simp] theorem emu8_setBitZ (s : State) {n : Nat} (u v : BitVec n) :
    (s.setBitZ u v).emu8 = s.emu8 := by simp [State.emu8]

@[simp] theorem mode_setBitZ (s : State) {n : Nat} (u v : BitVec n) :
    (s.setBitZ u v).mode = s.mode := by simp [State.mode]

@[simp] theorem mw_setBitZ (s : State) {n : Nat} (u v : BitVec n) :
    (s.setBitZ u v).mw = s.mw := by simp [State.mw, State.setBitZ]

@[simp] theorem xw_setBitZ (s : State) {n : Nat} (u v : BitVec n) :
    (s.setBitZ u v).xw = s.xw := by simp [State.xw, State.setBitZ]

@[simp] theorem readByte_setBitZ (s : State) {n : Nat} (u v : BitVec n) (i : Nat) :
    (s.setBitZ u v).readByte i = s.readByte i := by simp [State.readByte]

/-! ### `writeByte` -/

@[simp] theorem writeByte_a (s : State) (k : Nat) (v : Byte) : (s.writeByte k v).a = s.a := rfl

@[simp] theorem writeByte_x (s : State) (k : Nat) (v : Byte) : (s.writeByte k v).x = s.x := rfl

@[simp] theorem writeByte_y (s : State) (k : Nat) (v : Byte) : (s.writeByte k v).y = s.y := rfl

@[simp] theorem writeByte_sp (s : State) (k : Nat) (v : Byte) : (s.writeByte k v).sp = s.sp := rfl

@[simp] theorem writeByte_d (s : State) (k : Nat) (v : Byte) : (s.writeByte k v).d = s.d := rfl

@[simp] theorem writeByte_dbr (s : State) (k : Nat) (v : Byte) :
    (s.writeByte k v).dbr = s.dbr := rfl

@[simp] theorem writeByte_pbr (s : State) (k : Nat) (v : Byte) :
    (s.writeByte k v).pbr = s.pbr := rfl

@[simp] theorem writeByte_pc (s : State) (k : Nat) (v : Byte) : (s.writeByte k v).pc = s.pc := rfl

@[simp] theorem writeByte_p (s : State) (k : Nat) (v : Byte) : (s.writeByte k v).p = s.p := rfl

@[simp] theorem writeByte_e8 (s : State) (k : Nat) (v : Byte) : (s.writeByte k v).e8 = s.e8 := rfl

@[simp] theorem writeByte_e16 (s : State) (k : Nat) (v : Byte) :
    (s.writeByte k v).e16 = s.e16 := rfl

@[simp] theorem writeByte_waiting (s : State) (k : Nat) (v : Byte) :
    (s.writeByte k v).waiting = s.waiting := rfl

@[simp] theorem writeByte_stopped (s : State) (k : Nat) (v : Byte) :
    (s.writeByte k v).stopped = s.stopped := rfl

@[simp] theorem writeByte_nmiPending (s : State) (k : Nat) (v : Byte) :
    (s.writeByte k v).nmiPending = s.nmiPending := rfl

@[simp] theorem writeByte_abortPending (s : State) (k : Nat) (v : Byte) :
    (s.writeByte k v).abortPending = s.abortPending := rfl

@[simp] theorem writeByte_irqLow (s : State) (k : Nat) (v : Byte) :
    (s.writeByte k v).irqLow = s.irqLow := rfl

@[simp] theorem writeByte_ir (s : State) (k : Nat) (v : Byte) : (s.writeByte k v).ir = s.ir := rfl

@[simp] theorem writeByte_inputs (s : State) (k : Nat) (v : Byte) :
    (s.writeByte k v).inputs = s.inputs := rfl

@[simp] theorem writeByte_draw (s : State) (k : Nat) (v : Byte) :
    (s.writeByte k v).draw = s.draw := rfl

@[simp] theorem flag_writeByte (s : State) (k : Nat) (v : Byte) (g : Flag) :
    (s.writeByte k v).flag g = s.flag g := by simp [State.flag]

@[simp] theorem emu8_writeByte (s : State) (k : Nat) (v : Byte) :
    (s.writeByte k v).emu8 = s.emu8 := by simp [State.emu8]

@[simp] theorem mode_writeByte (s : State) (k : Nat) (v : Byte) :
    (s.writeByte k v).mode = s.mode := by simp [State.mode]

@[simp] theorem mw_writeByte (s : State) (k : Nat) (v : Byte) :
    (s.writeByte k v).mw = s.mw := by simp [State.mw]

@[simp] theorem xw_writeByte (s : State) (k : Nat) (v : Byte) :
    (s.writeByte k v).xw = s.xw := by simp [State.xw]

/-! ### `writeLE` -/

/-- A memory write changes memory alone. -/
theorem writeLE_eq (s : State) (l : Loc) (v n : Nat) :
    s.writeLE l v n = { s with mem := (s.writeLE l v n).mem } := by
  induction n with
  | zero => rfl
  | succ n ih =>
    rw [State.writeLE, State.writeByte]
    conv_lhs => rw [ih]

@[simp] theorem writeLE_a (s : State) (l : Loc) (v n : Nat) :
    (s.writeLE l v n).a = s.a := by rw [writeLE_eq]

@[simp] theorem writeLE_x (s : State) (l : Loc) (v n : Nat) :
    (s.writeLE l v n).x = s.x := by rw [writeLE_eq]

@[simp] theorem writeLE_y (s : State) (l : Loc) (v n : Nat) :
    (s.writeLE l v n).y = s.y := by rw [writeLE_eq]

@[simp] theorem writeLE_sp (s : State) (l : Loc) (v n : Nat) :
    (s.writeLE l v n).sp = s.sp := by rw [writeLE_eq]

@[simp] theorem writeLE_d (s : State) (l : Loc) (v n : Nat) :
    (s.writeLE l v n).d = s.d := by rw [writeLE_eq]

@[simp] theorem writeLE_dbr (s : State) (l : Loc) (v n : Nat) :
    (s.writeLE l v n).dbr = s.dbr := by rw [writeLE_eq]

@[simp] theorem writeLE_pbr (s : State) (l : Loc) (v n : Nat) :
    (s.writeLE l v n).pbr = s.pbr := by rw [writeLE_eq]

@[simp] theorem writeLE_pc (s : State) (l : Loc) (v n : Nat) :
    (s.writeLE l v n).pc = s.pc := by rw [writeLE_eq]

@[simp] theorem writeLE_p (s : State) (l : Loc) (v n : Nat) :
    (s.writeLE l v n).p = s.p := by rw [writeLE_eq]

@[simp] theorem writeLE_e8 (s : State) (l : Loc) (v n : Nat) :
    (s.writeLE l v n).e8 = s.e8 := by rw [writeLE_eq]

@[simp] theorem writeLE_e16 (s : State) (l : Loc) (v n : Nat) :
    (s.writeLE l v n).e16 = s.e16 := by rw [writeLE_eq]

@[simp] theorem writeLE_waiting (s : State) (l : Loc) (v n : Nat) :
    (s.writeLE l v n).waiting = s.waiting := by rw [writeLE_eq]

@[simp] theorem writeLE_stopped (s : State) (l : Loc) (v n : Nat) :
    (s.writeLE l v n).stopped = s.stopped := by rw [writeLE_eq]

@[simp] theorem writeLE_nmiPending (s : State) (l : Loc) (v n : Nat) :
    (s.writeLE l v n).nmiPending = s.nmiPending := by rw [writeLE_eq]

@[simp] theorem writeLE_abortPending (s : State) (l : Loc) (v n : Nat) :
    (s.writeLE l v n).abortPending = s.abortPending := by rw [writeLE_eq]

@[simp] theorem writeLE_irqLow (s : State) (l : Loc) (v n : Nat) :
    (s.writeLE l v n).irqLow = s.irqLow := by rw [writeLE_eq]

@[simp] theorem writeLE_ir (s : State) (l : Loc) (v n : Nat) :
    (s.writeLE l v n).ir = s.ir := by rw [writeLE_eq]

@[simp] theorem writeLE_inputs (s : State) (l : Loc) (v n : Nat) :
    (s.writeLE l v n).inputs = s.inputs := by rw [writeLE_eq]

@[simp] theorem writeLE_draw (s : State) (l : Loc) (v n : Nat) :
    (s.writeLE l v n).draw = s.draw := by rw [writeLE_eq]

@[simp] theorem flag_writeLE (s : State) (l : Loc) (v n : Nat) (g : Flag) :
    (s.writeLE l v n).flag g = s.flag g := by simp [State.flag]

@[simp] theorem emu8_writeLE (s : State) (l : Loc) (v n : Nat) :
    (s.writeLE l v n).emu8 = s.emu8 := by simp [State.emu8]

@[simp] theorem mode_writeLE (s : State) (l : Loc) (v n : Nat) :
    (s.writeLE l v n).mode = s.mode := by simp [State.mode]

@[simp] theorem mw_writeLE (s : State) (l : Loc) (v n : Nat) :
    (s.writeLE l v n).mw = s.mw := by simp [State.mw]

@[simp] theorem xw_writeLE (s : State) (l : Loc) (v n : Nat) :
    (s.writeLE l v n).xw = s.xw := by simp [State.xw]

/-! ### `writeWidth` -/

theorem writeWidth_eq (s : State) (l : Loc) (w : Width) (v : BitVec w.bits) :
    s.writeWidth l w v =
      { s with
        mem := (s.writeWidth l w v).mem } := by rw [State.writeWidth, writeLE_eq]

@[simp] theorem writeWidth_a (s : State) (l : Loc) (w : Width) (v : BitVec w.bits) :
    (s.writeWidth l w v).a = s.a := by rw [State.writeWidth, writeLE_eq]

@[simp] theorem writeWidth_x (s : State) (l : Loc) (w : Width) (v : BitVec w.bits) :
    (s.writeWidth l w v).x = s.x := by rw [State.writeWidth, writeLE_eq]

@[simp] theorem writeWidth_y (s : State) (l : Loc) (w : Width) (v : BitVec w.bits) :
    (s.writeWidth l w v).y = s.y := by rw [State.writeWidth, writeLE_eq]

@[simp] theorem writeWidth_sp (s : State) (l : Loc) (w : Width) (v : BitVec w.bits) :
    (s.writeWidth l w v).sp = s.sp := by rw [State.writeWidth, writeLE_eq]

@[simp] theorem writeWidth_d (s : State) (l : Loc) (w : Width) (v : BitVec w.bits) :
    (s.writeWidth l w v).d = s.d := by rw [State.writeWidth, writeLE_eq]

@[simp] theorem writeWidth_dbr (s : State) (l : Loc) (w : Width) (v : BitVec w.bits) :
    (s.writeWidth l w v).dbr = s.dbr := by rw [State.writeWidth, writeLE_eq]

@[simp] theorem writeWidth_pbr (s : State) (l : Loc) (w : Width) (v : BitVec w.bits) :
    (s.writeWidth l w v).pbr = s.pbr := by rw [State.writeWidth, writeLE_eq]

@[simp] theorem writeWidth_pc (s : State) (l : Loc) (w : Width) (v : BitVec w.bits) :
    (s.writeWidth l w v).pc = s.pc := by rw [State.writeWidth, writeLE_eq]

@[simp] theorem writeWidth_p (s : State) (l : Loc) (w : Width) (v : BitVec w.bits) :
    (s.writeWidth l w v).p = s.p := by rw [State.writeWidth, writeLE_eq]

@[simp] theorem writeWidth_e8 (s : State) (l : Loc) (w : Width) (v : BitVec w.bits) :
    (s.writeWidth l w v).e8 = s.e8 := by rw [State.writeWidth, writeLE_eq]

@[simp] theorem writeWidth_e16 (s : State) (l : Loc) (w : Width) (v : BitVec w.bits) :
    (s.writeWidth l w v).e16 = s.e16 := by rw [State.writeWidth, writeLE_eq]

@[simp] theorem writeWidth_waiting (s : State) (l : Loc) (w : Width) (v : BitVec w.bits) :
    (s.writeWidth l w v).waiting = s.waiting := by rw [State.writeWidth, writeLE_eq]

@[simp] theorem writeWidth_stopped (s : State) (l : Loc) (w : Width) (v : BitVec w.bits) :
    (s.writeWidth l w v).stopped = s.stopped := by rw [State.writeWidth, writeLE_eq]

@[simp] theorem writeWidth_nmiPending (s : State) (l : Loc) (w : Width) (v : BitVec w.bits) :
    (s.writeWidth l w v).nmiPending = s.nmiPending := by rw [State.writeWidth, writeLE_eq]

@[simp] theorem writeWidth_abortPending (s : State) (l : Loc) (w : Width) (v : BitVec w.bits) :
    (s.writeWidth l w v).abortPending = s.abortPending := by rw [State.writeWidth, writeLE_eq]

@[simp] theorem writeWidth_irqLow (s : State) (l : Loc) (w : Width) (v : BitVec w.bits) :
    (s.writeWidth l w v).irqLow = s.irqLow := by rw [State.writeWidth, writeLE_eq]

@[simp] theorem writeWidth_ir (s : State) (l : Loc) (w : Width) (v : BitVec w.bits) :
    (s.writeWidth l w v).ir = s.ir := by rw [State.writeWidth, writeLE_eq]

@[simp] theorem writeWidth_inputs (s : State) (l : Loc) (w : Width) (v : BitVec w.bits) :
    (s.writeWidth l w v).inputs = s.inputs := by rw [State.writeWidth, writeLE_eq]

@[simp] theorem writeWidth_draw (s : State) (l : Loc) (w : Width) (v : BitVec w.bits) :
    (s.writeWidth l w v).draw = s.draw := by rw [State.writeWidth, writeLE_eq]

@[simp] theorem flag_writeWidth (s : State) (l : Loc) (w : Width) (v : BitVec w.bits) (g : Flag) :
    (s.writeWidth l w v).flag g = s.flag g := by simp [State.flag]

@[simp] theorem emu8_writeWidth (s : State) (l : Loc) (w : Width) (v : BitVec w.bits) :
    (s.writeWidth l w v).emu8 = s.emu8 := by simp [State.emu8]

@[simp] theorem mode_writeWidth (s : State) (l : Loc) (w : Width) (v : BitVec w.bits) :
    (s.writeWidth l w v).mode = s.mode := by simp [State.mode]

@[simp] theorem mw_writeWidth (s : State) (l : Loc) (w : Width) (v : BitVec w.bits) :
    (s.writeWidth l w v).mw = s.mw := by simp [State.mw]

@[simp] theorem xw_writeWidth (s : State) (l : Loc) (w : Width) (v : BitVec w.bits) :
    (s.writeWidth l w v).xw = s.xw := by simp [State.xw]

/-! ### `writeA` -/

theorem writeA_eq (s : State) (w : Width) (v : BitVec w.bits) :
    s.writeA w v =
      { s with
        a := (s.writeA w v).a } := by cases w <;> rfl

@[simp] theorem writeA_x (s : State) (w : Width) (v : BitVec w.bits) :
    (s.writeA w v).x = s.x := by cases w <;> rfl

@[simp] theorem writeA_y (s : State) (w : Width) (v : BitVec w.bits) :
    (s.writeA w v).y = s.y := by cases w <;> rfl

@[simp] theorem writeA_sp (s : State) (w : Width) (v : BitVec w.bits) :
    (s.writeA w v).sp = s.sp := by cases w <;> rfl

@[simp] theorem writeA_d (s : State) (w : Width) (v : BitVec w.bits) :
    (s.writeA w v).d = s.d := by cases w <;> rfl

@[simp] theorem writeA_dbr (s : State) (w : Width) (v : BitVec w.bits) :
    (s.writeA w v).dbr = s.dbr := by cases w <;> rfl

@[simp] theorem writeA_pbr (s : State) (w : Width) (v : BitVec w.bits) :
    (s.writeA w v).pbr = s.pbr := by cases w <;> rfl

@[simp] theorem writeA_pc (s : State) (w : Width) (v : BitVec w.bits) :
    (s.writeA w v).pc = s.pc := by cases w <;> rfl

@[simp] theorem writeA_p (s : State) (w : Width) (v : BitVec w.bits) :
    (s.writeA w v).p = s.p := by cases w <;> rfl

@[simp] theorem writeA_e8 (s : State) (w : Width) (v : BitVec w.bits) :
    (s.writeA w v).e8 = s.e8 := by cases w <;> rfl

@[simp] theorem writeA_e16 (s : State) (w : Width) (v : BitVec w.bits) :
    (s.writeA w v).e16 = s.e16 := by cases w <;> rfl

@[simp] theorem writeA_waiting (s : State) (w : Width) (v : BitVec w.bits) :
    (s.writeA w v).waiting = s.waiting := by cases w <;> rfl

@[simp] theorem writeA_stopped (s : State) (w : Width) (v : BitVec w.bits) :
    (s.writeA w v).stopped = s.stopped := by cases w <;> rfl

@[simp] theorem writeA_nmiPending (s : State) (w : Width) (v : BitVec w.bits) :
    (s.writeA w v).nmiPending = s.nmiPending := by cases w <;> rfl

@[simp] theorem writeA_abortPending (s : State) (w : Width) (v : BitVec w.bits) :
    (s.writeA w v).abortPending = s.abortPending := by cases w <;> rfl

@[simp] theorem writeA_irqLow (s : State) (w : Width) (v : BitVec w.bits) :
    (s.writeA w v).irqLow = s.irqLow := by cases w <;> rfl

@[simp] theorem writeA_ir (s : State) (w : Width) (v : BitVec w.bits) :
    (s.writeA w v).ir = s.ir := by cases w <;> rfl

@[simp] theorem writeA_mem (s : State) (w : Width) (v : BitVec w.bits) :
    (s.writeA w v).mem = s.mem := by cases w <;> rfl

@[simp] theorem writeA_inputs (s : State) (w : Width) (v : BitVec w.bits) :
    (s.writeA w v).inputs = s.inputs := by cases w <;> rfl

@[simp] theorem writeA_draw (s : State) (w : Width) (v : BitVec w.bits) :
    (s.writeA w v).draw = s.draw := by cases w <;> rfl

@[simp] theorem flag_writeA (s : State) (w : Width) (v : BitVec w.bits) (g : Flag) :
    (s.writeA w v).flag g = s.flag g := by simp [State.flag]

@[simp] theorem emu8_writeA (s : State) (w : Width) (v : BitVec w.bits) :
    (s.writeA w v).emu8 = s.emu8 := by simp [State.emu8]

@[simp] theorem mode_writeA (s : State) (w : Width) (v : BitVec w.bits) :
    (s.writeA w v).mode = s.mode := by simp [State.mode]

@[simp] theorem mw_writeA (s : State) (w : Width) (v : BitVec w.bits) :
    (s.writeA w v).mw = s.mw := by simp [State.mw]

@[simp] theorem xw_writeA (s : State) (w : Width) (v : BitVec w.bits) :
    (s.writeA w v).xw = s.xw := by simp [State.xw]

@[simp] theorem readByte_writeA (s : State) (w : Width) (v : BitVec w.bits) (i : Nat) :
    (s.writeA w v).readByte i = s.readByte i := by simp [State.readByte]

/-! ### `writeX` -/

theorem writeX_eq (s : State) (w : Width) (v : BitVec w.bits) :
    s.writeX w v =
      { s with
        x := (s.writeX w v).x } := by cases w <;> rfl

@[simp] theorem writeX_a (s : State) (w : Width) (v : BitVec w.bits) :
    (s.writeX w v).a = s.a := by cases w <;> rfl

@[simp] theorem writeX_y (s : State) (w : Width) (v : BitVec w.bits) :
    (s.writeX w v).y = s.y := by cases w <;> rfl

@[simp] theorem writeX_sp (s : State) (w : Width) (v : BitVec w.bits) :
    (s.writeX w v).sp = s.sp := by cases w <;> rfl

@[simp] theorem writeX_d (s : State) (w : Width) (v : BitVec w.bits) :
    (s.writeX w v).d = s.d := by cases w <;> rfl

@[simp] theorem writeX_dbr (s : State) (w : Width) (v : BitVec w.bits) :
    (s.writeX w v).dbr = s.dbr := by cases w <;> rfl

@[simp] theorem writeX_pbr (s : State) (w : Width) (v : BitVec w.bits) :
    (s.writeX w v).pbr = s.pbr := by cases w <;> rfl

@[simp] theorem writeX_pc (s : State) (w : Width) (v : BitVec w.bits) :
    (s.writeX w v).pc = s.pc := by cases w <;> rfl

@[simp] theorem writeX_p (s : State) (w : Width) (v : BitVec w.bits) :
    (s.writeX w v).p = s.p := by cases w <;> rfl

@[simp] theorem writeX_e8 (s : State) (w : Width) (v : BitVec w.bits) :
    (s.writeX w v).e8 = s.e8 := by cases w <;> rfl

@[simp] theorem writeX_e16 (s : State) (w : Width) (v : BitVec w.bits) :
    (s.writeX w v).e16 = s.e16 := by cases w <;> rfl

@[simp] theorem writeX_waiting (s : State) (w : Width) (v : BitVec w.bits) :
    (s.writeX w v).waiting = s.waiting := by cases w <;> rfl

@[simp] theorem writeX_stopped (s : State) (w : Width) (v : BitVec w.bits) :
    (s.writeX w v).stopped = s.stopped := by cases w <;> rfl

@[simp] theorem writeX_nmiPending (s : State) (w : Width) (v : BitVec w.bits) :
    (s.writeX w v).nmiPending = s.nmiPending := by cases w <;> rfl

@[simp] theorem writeX_abortPending (s : State) (w : Width) (v : BitVec w.bits) :
    (s.writeX w v).abortPending = s.abortPending := by cases w <;> rfl

@[simp] theorem writeX_irqLow (s : State) (w : Width) (v : BitVec w.bits) :
    (s.writeX w v).irqLow = s.irqLow := by cases w <;> rfl

@[simp] theorem writeX_ir (s : State) (w : Width) (v : BitVec w.bits) :
    (s.writeX w v).ir = s.ir := by cases w <;> rfl

@[simp] theorem writeX_mem (s : State) (w : Width) (v : BitVec w.bits) :
    (s.writeX w v).mem = s.mem := by cases w <;> rfl

@[simp] theorem writeX_inputs (s : State) (w : Width) (v : BitVec w.bits) :
    (s.writeX w v).inputs = s.inputs := by cases w <;> rfl

@[simp] theorem writeX_draw (s : State) (w : Width) (v : BitVec w.bits) :
    (s.writeX w v).draw = s.draw := by cases w <;> rfl

@[simp] theorem flag_writeX (s : State) (w : Width) (v : BitVec w.bits) (g : Flag) :
    (s.writeX w v).flag g = s.flag g := by simp [State.flag]

@[simp] theorem emu8_writeX (s : State) (w : Width) (v : BitVec w.bits) :
    (s.writeX w v).emu8 = s.emu8 := by simp [State.emu8]

@[simp] theorem mode_writeX (s : State) (w : Width) (v : BitVec w.bits) :
    (s.writeX w v).mode = s.mode := by simp [State.mode]

@[simp] theorem mw_writeX (s : State) (w : Width) (v : BitVec w.bits) :
    (s.writeX w v).mw = s.mw := by simp [State.mw]

@[simp] theorem xw_writeX (s : State) (w : Width) (v : BitVec w.bits) :
    (s.writeX w v).xw = s.xw := by simp [State.xw]

@[simp] theorem readByte_writeX (s : State) (w : Width) (v : BitVec w.bits) (i : Nat) :
    (s.writeX w v).readByte i = s.readByte i := by simp [State.readByte]

/-! ### `writeY` -/

theorem writeY_eq (s : State) (w : Width) (v : BitVec w.bits) :
    s.writeY w v =
      { s with
        y := (s.writeY w v).y } := by cases w <;> rfl

@[simp] theorem writeY_a (s : State) (w : Width) (v : BitVec w.bits) :
    (s.writeY w v).a = s.a := by cases w <;> rfl

@[simp] theorem writeY_x (s : State) (w : Width) (v : BitVec w.bits) :
    (s.writeY w v).x = s.x := by cases w <;> rfl

@[simp] theorem writeY_sp (s : State) (w : Width) (v : BitVec w.bits) :
    (s.writeY w v).sp = s.sp := by cases w <;> rfl

@[simp] theorem writeY_d (s : State) (w : Width) (v : BitVec w.bits) :
    (s.writeY w v).d = s.d := by cases w <;> rfl

@[simp] theorem writeY_dbr (s : State) (w : Width) (v : BitVec w.bits) :
    (s.writeY w v).dbr = s.dbr := by cases w <;> rfl

@[simp] theorem writeY_pbr (s : State) (w : Width) (v : BitVec w.bits) :
    (s.writeY w v).pbr = s.pbr := by cases w <;> rfl

@[simp] theorem writeY_pc (s : State) (w : Width) (v : BitVec w.bits) :
    (s.writeY w v).pc = s.pc := by cases w <;> rfl

@[simp] theorem writeY_p (s : State) (w : Width) (v : BitVec w.bits) :
    (s.writeY w v).p = s.p := by cases w <;> rfl

@[simp] theorem writeY_e8 (s : State) (w : Width) (v : BitVec w.bits) :
    (s.writeY w v).e8 = s.e8 := by cases w <;> rfl

@[simp] theorem writeY_e16 (s : State) (w : Width) (v : BitVec w.bits) :
    (s.writeY w v).e16 = s.e16 := by cases w <;> rfl

@[simp] theorem writeY_waiting (s : State) (w : Width) (v : BitVec w.bits) :
    (s.writeY w v).waiting = s.waiting := by cases w <;> rfl

@[simp] theorem writeY_stopped (s : State) (w : Width) (v : BitVec w.bits) :
    (s.writeY w v).stopped = s.stopped := by cases w <;> rfl

@[simp] theorem writeY_nmiPending (s : State) (w : Width) (v : BitVec w.bits) :
    (s.writeY w v).nmiPending = s.nmiPending := by cases w <;> rfl

@[simp] theorem writeY_abortPending (s : State) (w : Width) (v : BitVec w.bits) :
    (s.writeY w v).abortPending = s.abortPending := by cases w <;> rfl

@[simp] theorem writeY_irqLow (s : State) (w : Width) (v : BitVec w.bits) :
    (s.writeY w v).irqLow = s.irqLow := by cases w <;> rfl

@[simp] theorem writeY_ir (s : State) (w : Width) (v : BitVec w.bits) :
    (s.writeY w v).ir = s.ir := by cases w <;> rfl

@[simp] theorem writeY_mem (s : State) (w : Width) (v : BitVec w.bits) :
    (s.writeY w v).mem = s.mem := by cases w <;> rfl

@[simp] theorem writeY_inputs (s : State) (w : Width) (v : BitVec w.bits) :
    (s.writeY w v).inputs = s.inputs := by cases w <;> rfl

@[simp] theorem writeY_draw (s : State) (w : Width) (v : BitVec w.bits) :
    (s.writeY w v).draw = s.draw := by cases w <;> rfl

@[simp] theorem flag_writeY (s : State) (w : Width) (v : BitVec w.bits) (g : Flag) :
    (s.writeY w v).flag g = s.flag g := by simp [State.flag]

@[simp] theorem emu8_writeY (s : State) (w : Width) (v : BitVec w.bits) :
    (s.writeY w v).emu8 = s.emu8 := by simp [State.emu8]

@[simp] theorem mode_writeY (s : State) (w : Width) (v : BitVec w.bits) :
    (s.writeY w v).mode = s.mode := by simp [State.mode]

@[simp] theorem mw_writeY (s : State) (w : Width) (v : BitVec w.bits) :
    (s.writeY w v).mw = s.mw := by simp [State.mw]

@[simp] theorem xw_writeY (s : State) (w : Width) (v : BitVec w.bits) :
    (s.writeY w v).xw = s.xw := by simp [State.xw]

@[simp] theorem readByte_writeY (s : State) (w : Width) (v : BitVec w.bits) (i : Nat) :
    (s.writeY w v).readByte i = s.readByte i := by simp [State.readByte]

/-! ### `putA` -/

theorem putA_eq (s : State) (w : Width) (v : BitVec w.bits) :
    s.putA w v =
      { s with
        a := (s.putA w v).a
        p := (s.putA w v).p } := by cases w <;> rfl

@[simp] theorem putA_x (s : State) (w : Width) (v : BitVec w.bits) :
    (s.putA w v).x = s.x := by cases w <;> rfl

@[simp] theorem putA_y (s : State) (w : Width) (v : BitVec w.bits) :
    (s.putA w v).y = s.y := by cases w <;> rfl

@[simp] theorem putA_sp (s : State) (w : Width) (v : BitVec w.bits) :
    (s.putA w v).sp = s.sp := by cases w <;> rfl

@[simp] theorem putA_d (s : State) (w : Width) (v : BitVec w.bits) :
    (s.putA w v).d = s.d := by cases w <;> rfl

@[simp] theorem putA_dbr (s : State) (w : Width) (v : BitVec w.bits) :
    (s.putA w v).dbr = s.dbr := by cases w <;> rfl

@[simp] theorem putA_pbr (s : State) (w : Width) (v : BitVec w.bits) :
    (s.putA w v).pbr = s.pbr := by cases w <;> rfl

@[simp] theorem putA_pc (s : State) (w : Width) (v : BitVec w.bits) :
    (s.putA w v).pc = s.pc := by cases w <;> rfl

@[simp] theorem putA_e8 (s : State) (w : Width) (v : BitVec w.bits) :
    (s.putA w v).e8 = s.e8 := by cases w <;> rfl

@[simp] theorem putA_e16 (s : State) (w : Width) (v : BitVec w.bits) :
    (s.putA w v).e16 = s.e16 := by cases w <;> rfl

@[simp] theorem putA_waiting (s : State) (w : Width) (v : BitVec w.bits) :
    (s.putA w v).waiting = s.waiting := by cases w <;> rfl

@[simp] theorem putA_stopped (s : State) (w : Width) (v : BitVec w.bits) :
    (s.putA w v).stopped = s.stopped := by cases w <;> rfl

@[simp] theorem putA_nmiPending (s : State) (w : Width) (v : BitVec w.bits) :
    (s.putA w v).nmiPending = s.nmiPending := by cases w <;> rfl

@[simp] theorem putA_abortPending (s : State) (w : Width) (v : BitVec w.bits) :
    (s.putA w v).abortPending = s.abortPending := by cases w <;> rfl

@[simp] theorem putA_irqLow (s : State) (w : Width) (v : BitVec w.bits) :
    (s.putA w v).irqLow = s.irqLow := by cases w <;> rfl

@[simp] theorem putA_ir (s : State) (w : Width) (v : BitVec w.bits) :
    (s.putA w v).ir = s.ir := by cases w <;> rfl

@[simp] theorem putA_mem (s : State) (w : Width) (v : BitVec w.bits) :
    (s.putA w v).mem = s.mem := by cases w <;> rfl

@[simp] theorem putA_inputs (s : State) (w : Width) (v : BitVec w.bits) :
    (s.putA w v).inputs = s.inputs := by cases w <;> rfl

@[simp] theorem putA_draw (s : State) (w : Width) (v : BitVec w.bits) :
    (s.putA w v).draw = s.draw := by cases w <;> rfl

@[simp] theorem emu8_putA (s : State) (w : Width) (v : BitVec w.bits) :
    (s.putA w v).emu8 = s.emu8 := by simp [State.emu8]

@[simp] theorem mode_putA (s : State) (w : Width) (v : BitVec w.bits) :
    (s.putA w v).mode = s.mode := by simp [State.mode]

@[simp] theorem mw_putA (s : State) (w : Width) (v : BitVec w.bits) :
    (s.putA w v).mw = s.mw := by simp [State.mw, State.putA]

@[simp] theorem xw_putA (s : State) (w : Width) (v : BitVec w.bits) :
    (s.putA w v).xw = s.xw := by simp [State.xw, State.putA]

@[simp] theorem readByte_putA (s : State) (w : Width) (v : BitVec w.bits) (i : Nat) :
    (s.putA w v).readByte i = s.readByte i := by simp [State.readByte]

/-! ### `putX` -/

theorem putX_eq (s : State) (w : Width) (v : BitVec w.bits) :
    s.putX w v =
      { s with
        x := (s.putX w v).x
        p := (s.putX w v).p } := by cases w <;> rfl

@[simp] theorem putX_a (s : State) (w : Width) (v : BitVec w.bits) :
    (s.putX w v).a = s.a := by cases w <;> rfl

@[simp] theorem putX_y (s : State) (w : Width) (v : BitVec w.bits) :
    (s.putX w v).y = s.y := by cases w <;> rfl

@[simp] theorem putX_sp (s : State) (w : Width) (v : BitVec w.bits) :
    (s.putX w v).sp = s.sp := by cases w <;> rfl

@[simp] theorem putX_d (s : State) (w : Width) (v : BitVec w.bits) :
    (s.putX w v).d = s.d := by cases w <;> rfl

@[simp] theorem putX_dbr (s : State) (w : Width) (v : BitVec w.bits) :
    (s.putX w v).dbr = s.dbr := by cases w <;> rfl

@[simp] theorem putX_pbr (s : State) (w : Width) (v : BitVec w.bits) :
    (s.putX w v).pbr = s.pbr := by cases w <;> rfl

@[simp] theorem putX_pc (s : State) (w : Width) (v : BitVec w.bits) :
    (s.putX w v).pc = s.pc := by cases w <;> rfl

@[simp] theorem putX_e8 (s : State) (w : Width) (v : BitVec w.bits) :
    (s.putX w v).e8 = s.e8 := by cases w <;> rfl

@[simp] theorem putX_e16 (s : State) (w : Width) (v : BitVec w.bits) :
    (s.putX w v).e16 = s.e16 := by cases w <;> rfl

@[simp] theorem putX_waiting (s : State) (w : Width) (v : BitVec w.bits) :
    (s.putX w v).waiting = s.waiting := by cases w <;> rfl

@[simp] theorem putX_stopped (s : State) (w : Width) (v : BitVec w.bits) :
    (s.putX w v).stopped = s.stopped := by cases w <;> rfl

@[simp] theorem putX_nmiPending (s : State) (w : Width) (v : BitVec w.bits) :
    (s.putX w v).nmiPending = s.nmiPending := by cases w <;> rfl

@[simp] theorem putX_abortPending (s : State) (w : Width) (v : BitVec w.bits) :
    (s.putX w v).abortPending = s.abortPending := by cases w <;> rfl

@[simp] theorem putX_irqLow (s : State) (w : Width) (v : BitVec w.bits) :
    (s.putX w v).irqLow = s.irqLow := by cases w <;> rfl

@[simp] theorem putX_ir (s : State) (w : Width) (v : BitVec w.bits) :
    (s.putX w v).ir = s.ir := by cases w <;> rfl

@[simp] theorem putX_mem (s : State) (w : Width) (v : BitVec w.bits) :
    (s.putX w v).mem = s.mem := by cases w <;> rfl

@[simp] theorem putX_inputs (s : State) (w : Width) (v : BitVec w.bits) :
    (s.putX w v).inputs = s.inputs := by cases w <;> rfl

@[simp] theorem putX_draw (s : State) (w : Width) (v : BitVec w.bits) :
    (s.putX w v).draw = s.draw := by cases w <;> rfl

@[simp] theorem emu8_putX (s : State) (w : Width) (v : BitVec w.bits) :
    (s.putX w v).emu8 = s.emu8 := by simp [State.emu8]

@[simp] theorem mode_putX (s : State) (w : Width) (v : BitVec w.bits) :
    (s.putX w v).mode = s.mode := by simp [State.mode]

@[simp] theorem mw_putX (s : State) (w : Width) (v : BitVec w.bits) :
    (s.putX w v).mw = s.mw := by simp [State.mw, State.putX]

@[simp] theorem xw_putX (s : State) (w : Width) (v : BitVec w.bits) :
    (s.putX w v).xw = s.xw := by simp [State.xw, State.putX]

@[simp] theorem readByte_putX (s : State) (w : Width) (v : BitVec w.bits) (i : Nat) :
    (s.putX w v).readByte i = s.readByte i := by simp [State.readByte]

/-! ### `putY` -/

theorem putY_eq (s : State) (w : Width) (v : BitVec w.bits) :
    s.putY w v =
      { s with
        y := (s.putY w v).y
        p := (s.putY w v).p } := by cases w <;> rfl

@[simp] theorem putY_a (s : State) (w : Width) (v : BitVec w.bits) :
    (s.putY w v).a = s.a := by cases w <;> rfl

@[simp] theorem putY_x (s : State) (w : Width) (v : BitVec w.bits) :
    (s.putY w v).x = s.x := by cases w <;> rfl

@[simp] theorem putY_sp (s : State) (w : Width) (v : BitVec w.bits) :
    (s.putY w v).sp = s.sp := by cases w <;> rfl

@[simp] theorem putY_d (s : State) (w : Width) (v : BitVec w.bits) :
    (s.putY w v).d = s.d := by cases w <;> rfl

@[simp] theorem putY_dbr (s : State) (w : Width) (v : BitVec w.bits) :
    (s.putY w v).dbr = s.dbr := by cases w <;> rfl

@[simp] theorem putY_pbr (s : State) (w : Width) (v : BitVec w.bits) :
    (s.putY w v).pbr = s.pbr := by cases w <;> rfl

@[simp] theorem putY_pc (s : State) (w : Width) (v : BitVec w.bits) :
    (s.putY w v).pc = s.pc := by cases w <;> rfl

@[simp] theorem putY_e8 (s : State) (w : Width) (v : BitVec w.bits) :
    (s.putY w v).e8 = s.e8 := by cases w <;> rfl

@[simp] theorem putY_e16 (s : State) (w : Width) (v : BitVec w.bits) :
    (s.putY w v).e16 = s.e16 := by cases w <;> rfl

@[simp] theorem putY_waiting (s : State) (w : Width) (v : BitVec w.bits) :
    (s.putY w v).waiting = s.waiting := by cases w <;> rfl

@[simp] theorem putY_stopped (s : State) (w : Width) (v : BitVec w.bits) :
    (s.putY w v).stopped = s.stopped := by cases w <;> rfl

@[simp] theorem putY_nmiPending (s : State) (w : Width) (v : BitVec w.bits) :
    (s.putY w v).nmiPending = s.nmiPending := by cases w <;> rfl

@[simp] theorem putY_abortPending (s : State) (w : Width) (v : BitVec w.bits) :
    (s.putY w v).abortPending = s.abortPending := by cases w <;> rfl

@[simp] theorem putY_irqLow (s : State) (w : Width) (v : BitVec w.bits) :
    (s.putY w v).irqLow = s.irqLow := by cases w <;> rfl

@[simp] theorem putY_ir (s : State) (w : Width) (v : BitVec w.bits) :
    (s.putY w v).ir = s.ir := by cases w <;> rfl

@[simp] theorem putY_mem (s : State) (w : Width) (v : BitVec w.bits) :
    (s.putY w v).mem = s.mem := by cases w <;> rfl

@[simp] theorem putY_inputs (s : State) (w : Width) (v : BitVec w.bits) :
    (s.putY w v).inputs = s.inputs := by cases w <;> rfl

@[simp] theorem putY_draw (s : State) (w : Width) (v : BitVec w.bits) :
    (s.putY w v).draw = s.draw := by cases w <;> rfl

@[simp] theorem emu8_putY (s : State) (w : Width) (v : BitVec w.bits) :
    (s.putY w v).emu8 = s.emu8 := by simp [State.emu8]

@[simp] theorem mode_putY (s : State) (w : Width) (v : BitVec w.bits) :
    (s.putY w v).mode = s.mode := by simp [State.mode]

@[simp] theorem mw_putY (s : State) (w : Width) (v : BitVec w.bits) :
    (s.putY w v).mw = s.mw := by simp [State.mw, State.putY]

@[simp] theorem xw_putY (s : State) (w : Width) (v : BitVec w.bits) :
    (s.putY w v).xw = s.xw := by simp [State.xw, State.putY]

@[simp] theorem readByte_putY (s : State) (w : Width) (v : BitVec w.bits) (i : Nat) :
    (s.putY w v).readByte i = s.readByte i := by simp [State.readByte]

/-! ### `writeTarget` -/

theorem writeTarget_eq (s : State) (u : Target) (w : Width) (v : BitVec w.bits) :
    s.writeTarget u w v =
      { s with
        a := (s.writeTarget u w v).a
        mem := (s.writeTarget u w v).mem } := by
  cases u with
  | acc => cases w <;> rfl
  | mem m =>
    rw [State.writeTarget, writeWidth_a]
    exact writeWidth_eq s _ w v

@[simp] theorem writeTarget_x (s : State) (u : Target) (w : Width) (v : BitVec w.bits) :
    (s.writeTarget u w v).x = s.x := by cases u <;> simp [State.writeTarget]

@[simp] theorem writeTarget_y (s : State) (u : Target) (w : Width) (v : BitVec w.bits) :
    (s.writeTarget u w v).y = s.y := by cases u <;> simp [State.writeTarget]

@[simp] theorem writeTarget_sp (s : State) (u : Target) (w : Width) (v : BitVec w.bits) :
    (s.writeTarget u w v).sp = s.sp := by cases u <;> simp [State.writeTarget]

@[simp] theorem writeTarget_d (s : State) (u : Target) (w : Width) (v : BitVec w.bits) :
    (s.writeTarget u w v).d = s.d := by cases u <;> simp [State.writeTarget]

@[simp] theorem writeTarget_dbr (s : State) (u : Target) (w : Width) (v : BitVec w.bits) :
    (s.writeTarget u w v).dbr = s.dbr := by cases u <;> simp [State.writeTarget]

@[simp] theorem writeTarget_pbr (s : State) (u : Target) (w : Width) (v : BitVec w.bits) :
    (s.writeTarget u w v).pbr = s.pbr := by cases u <;> simp [State.writeTarget]

@[simp] theorem writeTarget_pc (s : State) (u : Target) (w : Width) (v : BitVec w.bits) :
    (s.writeTarget u w v).pc = s.pc := by cases u <;> simp [State.writeTarget]

@[simp] theorem writeTarget_p (s : State) (u : Target) (w : Width) (v : BitVec w.bits) :
    (s.writeTarget u w v).p = s.p := by cases u <;> simp [State.writeTarget]

@[simp] theorem writeTarget_e8 (s : State) (u : Target) (w : Width) (v : BitVec w.bits) :
    (s.writeTarget u w v).e8 = s.e8 := by cases u <;> simp [State.writeTarget]

@[simp] theorem writeTarget_e16 (s : State) (u : Target) (w : Width) (v : BitVec w.bits) :
    (s.writeTarget u w v).e16 = s.e16 := by cases u <;> simp [State.writeTarget]

@[simp] theorem writeTarget_waiting (s : State) (u : Target) (w : Width) (v : BitVec w.bits) :
    (s.writeTarget u w v).waiting = s.waiting := by cases u <;> simp [State.writeTarget]

@[simp] theorem writeTarget_stopped (s : State) (u : Target) (w : Width) (v : BitVec w.bits) :
    (s.writeTarget u w v).stopped = s.stopped := by cases u <;> simp [State.writeTarget]

@[simp] theorem writeTarget_nmiPending (s : State) (u : Target) (w : Width) (v : BitVec w.bits) :
    (s.writeTarget u w v).nmiPending = s.nmiPending := by cases u <;> simp [State.writeTarget]

@[simp] theorem writeTarget_abortPending (s : State) (u : Target) (w : Width) (v : BitVec w.bits) :
    (s.writeTarget u w v).abortPending = s.abortPending := by cases u <;> simp [State.writeTarget]

@[simp] theorem writeTarget_irqLow (s : State) (u : Target) (w : Width) (v : BitVec w.bits) :
    (s.writeTarget u w v).irqLow = s.irqLow := by cases u <;> simp [State.writeTarget]

@[simp] theorem writeTarget_ir (s : State) (u : Target) (w : Width) (v : BitVec w.bits) :
    (s.writeTarget u w v).ir = s.ir := by cases u <;> simp [State.writeTarget]

@[simp] theorem writeTarget_inputs (s : State) (u : Target) (w : Width) (v : BitVec w.bits) :
    (s.writeTarget u w v).inputs = s.inputs := by cases u <;> simp [State.writeTarget]

@[simp] theorem writeTarget_draw (s : State) (u : Target) (w : Width) (v : BitVec w.bits) :
    (s.writeTarget u w v).draw = s.draw := by cases u <;> simp [State.writeTarget]

@[simp] theorem flag_writeTarget (s : State) (u : Target) (w : Width) (v : BitVec w.bits) (g : Flag) :
    (s.writeTarget u w v).flag g = s.flag g := by
  simp [State.flag]

@[simp] theorem emu8_writeTarget (s : State) (u : Target) (w : Width) (v : BitVec w.bits) :
    (s.writeTarget u w v).emu8 = s.emu8 := by simp [State.emu8]

@[simp] theorem mode_writeTarget (s : State) (u : Target) (w : Width) (v : BitVec w.bits) :
    (s.writeTarget u w v).mode = s.mode := by simp [State.mode]

@[simp] theorem mw_writeTarget (s : State) (u : Target) (w : Width) (v : BitVec w.bits) :
    (s.writeTarget u w v).mw = s.mw := by simp [State.mw]

@[simp] theorem xw_writeTarget (s : State) (u : Target) (w : Width) (v : BitVec w.bits) :
    (s.writeTarget u w v).xw = s.xw := by simp [State.xw]

/-! ### `writeS` -/

@[simp] theorem writeS_a (s : State) (v : Word16) : (s.writeS v).a = s.a := rfl

@[simp] theorem writeS_x (s : State) (v : Word16) : (s.writeS v).x = s.x := rfl

@[simp] theorem writeS_y (s : State) (v : Word16) : (s.writeS v).y = s.y := rfl

@[simp] theorem writeS_d (s : State) (v : Word16) : (s.writeS v).d = s.d := rfl

@[simp] theorem writeS_dbr (s : State) (v : Word16) : (s.writeS v).dbr = s.dbr := rfl

@[simp] theorem writeS_pbr (s : State) (v : Word16) : (s.writeS v).pbr = s.pbr := rfl

@[simp] theorem writeS_pc (s : State) (v : Word16) : (s.writeS v).pc = s.pc := rfl

@[simp] theorem writeS_p (s : State) (v : Word16) : (s.writeS v).p = s.p := rfl

@[simp] theorem writeS_e8 (s : State) (v : Word16) : (s.writeS v).e8 = s.e8 := rfl

@[simp] theorem writeS_e16 (s : State) (v : Word16) : (s.writeS v).e16 = s.e16 := rfl

@[simp] theorem writeS_waiting (s : State) (v : Word16) : (s.writeS v).waiting = s.waiting := rfl

@[simp] theorem writeS_stopped (s : State) (v : Word16) : (s.writeS v).stopped = s.stopped := rfl

@[simp] theorem writeS_nmiPending (s : State) (v : Word16) :
    (s.writeS v).nmiPending = s.nmiPending := rfl

@[simp] theorem writeS_abortPending (s : State) (v : Word16) :
    (s.writeS v).abortPending = s.abortPending := rfl

@[simp] theorem writeS_irqLow (s : State) (v : Word16) : (s.writeS v).irqLow = s.irqLow := rfl

@[simp] theorem writeS_ir (s : State) (v : Word16) : (s.writeS v).ir = s.ir := rfl

@[simp] theorem writeS_mem (s : State) (v : Word16) : (s.writeS v).mem = s.mem := rfl

@[simp] theorem writeS_inputs (s : State) (v : Word16) : (s.writeS v).inputs = s.inputs := rfl

@[simp] theorem writeS_draw (s : State) (v : Word16) : (s.writeS v).draw = s.draw := rfl

@[simp] theorem flag_writeS (s : State) (v : Word16) (g : Flag) :
    (s.writeS v).flag g = s.flag g := by simp [State.flag]

@[simp] theorem emu8_writeS (s : State) (v : Word16) :
    (s.writeS v).emu8 = s.emu8 := by simp [State.emu8]

@[simp] theorem mode_writeS (s : State) (v : Word16) :
    (s.writeS v).mode = s.mode := by simp [State.mode]

@[simp] theorem mw_writeS (s : State) (v : Word16) : (s.writeS v).mw = s.mw := by simp [State.mw]

@[simp] theorem xw_writeS (s : State) (v : Word16) : (s.writeS v).xw = s.xw := by simp [State.xw]

@[simp] theorem readByte_writeS (s : State) (v : Word16) (i : Nat) :
    (s.writeS v).readByte i = s.readByte i := by simp [State.readByte]

/-! ### `advance` -/

@[simp] theorem advance_a (s : State) (len : Nat) : (s.advance len).a = s.a := rfl

@[simp] theorem advance_x (s : State) (len : Nat) : (s.advance len).x = s.x := rfl

@[simp] theorem advance_y (s : State) (len : Nat) : (s.advance len).y = s.y := rfl

@[simp] theorem advance_sp (s : State) (len : Nat) : (s.advance len).sp = s.sp := rfl

@[simp] theorem advance_d (s : State) (len : Nat) : (s.advance len).d = s.d := rfl

@[simp] theorem advance_dbr (s : State) (len : Nat) : (s.advance len).dbr = s.dbr := rfl

@[simp] theorem advance_pbr (s : State) (len : Nat) : (s.advance len).pbr = s.pbr := rfl

@[simp] theorem advance_p (s : State) (len : Nat) : (s.advance len).p = s.p := rfl

@[simp] theorem advance_e8 (s : State) (len : Nat) : (s.advance len).e8 = s.e8 := rfl

@[simp] theorem advance_e16 (s : State) (len : Nat) : (s.advance len).e16 = s.e16 := rfl

@[simp] theorem advance_waiting (s : State) (len : Nat) : (s.advance len).waiting = s.waiting := rfl

@[simp] theorem advance_stopped (s : State) (len : Nat) : (s.advance len).stopped = s.stopped := rfl

@[simp] theorem advance_nmiPending (s : State) (len : Nat) :
    (s.advance len).nmiPending = s.nmiPending := rfl

@[simp] theorem advance_abortPending (s : State) (len : Nat) :
    (s.advance len).abortPending = s.abortPending := rfl

@[simp] theorem advance_irqLow (s : State) (len : Nat) : (s.advance len).irqLow = s.irqLow := rfl

@[simp] theorem advance_ir (s : State) (len : Nat) : (s.advance len).ir = s.ir := rfl

@[simp] theorem advance_mem (s : State) (len : Nat) : (s.advance len).mem = s.mem := rfl

@[simp] theorem advance_inputs (s : State) (len : Nat) : (s.advance len).inputs = s.inputs := rfl

@[simp] theorem advance_draw (s : State) (len : Nat) : (s.advance len).draw = s.draw := rfl

@[simp] theorem flag_advance (s : State) (len : Nat) (g : Flag) :
    (s.advance len).flag g = s.flag g := by simp [State.flag]

@[simp] theorem emu8_advance (s : State) (len : Nat) :
    (s.advance len).emu8 = s.emu8 := by simp [State.emu8]

@[simp] theorem mode_advance (s : State) (len : Nat) :
    (s.advance len).mode = s.mode := by simp [State.mode]

@[simp] theorem mw_advance (s : State) (len : Nat) : (s.advance len).mw = s.mw := by simp [State.mw]

@[simp] theorem xw_advance (s : State) (len : Nat) : (s.advance len).xw = s.xw := by simp [State.xw]

@[simp] theorem readByte_advance (s : State) (len : Nat) (i : Nat) :
    (s.advance len).readByte i = s.readByte i := by simp [State.readByte]

/-! ### `jump` -/

@[simp] theorem jump_a (s : State) (q : Word16) : (s.jump q).a = s.a := rfl

@[simp] theorem jump_x (s : State) (q : Word16) : (s.jump q).x = s.x := rfl

@[simp] theorem jump_y (s : State) (q : Word16) : (s.jump q).y = s.y := rfl

@[simp] theorem jump_sp (s : State) (q : Word16) : (s.jump q).sp = s.sp := rfl

@[simp] theorem jump_d (s : State) (q : Word16) : (s.jump q).d = s.d := rfl

@[simp] theorem jump_dbr (s : State) (q : Word16) : (s.jump q).dbr = s.dbr := rfl

@[simp] theorem jump_pbr (s : State) (q : Word16) : (s.jump q).pbr = s.pbr := rfl

@[simp] theorem jump_p (s : State) (q : Word16) : (s.jump q).p = s.p := rfl

@[simp] theorem jump_e8 (s : State) (q : Word16) : (s.jump q).e8 = s.e8 := rfl

@[simp] theorem jump_e16 (s : State) (q : Word16) : (s.jump q).e16 = s.e16 := rfl

@[simp] theorem jump_waiting (s : State) (q : Word16) : (s.jump q).waiting = s.waiting := rfl

@[simp] theorem jump_stopped (s : State) (q : Word16) : (s.jump q).stopped = s.stopped := rfl

@[simp] theorem jump_nmiPending (s : State) (q : Word16) :
    (s.jump q).nmiPending = s.nmiPending := rfl

@[simp] theorem jump_abortPending (s : State) (q : Word16) :
    (s.jump q).abortPending = s.abortPending := rfl

@[simp] theorem jump_irqLow (s : State) (q : Word16) : (s.jump q).irqLow = s.irqLow := rfl

@[simp] theorem jump_ir (s : State) (q : Word16) : (s.jump q).ir = s.ir := rfl

@[simp] theorem jump_mem (s : State) (q : Word16) : (s.jump q).mem = s.mem := rfl

@[simp] theorem jump_inputs (s : State) (q : Word16) : (s.jump q).inputs = s.inputs := rfl

@[simp] theorem jump_draw (s : State) (q : Word16) : (s.jump q).draw = s.draw := rfl

@[simp] theorem flag_jump (s : State) (q : Word16) (g : Flag) :
    (s.jump q).flag g = s.flag g := by simp [State.flag]

@[simp] theorem emu8_jump (s : State) (q : Word16) :
    (s.jump q).emu8 = s.emu8 := by simp [State.emu8]

@[simp] theorem mode_jump (s : State) (q : Word16) :
    (s.jump q).mode = s.mode := by simp [State.mode]

@[simp] theorem mw_jump (s : State) (q : Word16) : (s.jump q).mw = s.mw := by simp [State.mw]

@[simp] theorem xw_jump (s : State) (q : Word16) : (s.jump q).xw = s.xw := by simp [State.xw]

@[simp] theorem readByte_jump (s : State) (q : Word16) (i : Nat) :
    (s.jump q).readByte i = s.readByte i := by simp [State.readByte]

/-! ### `jumpLong` -/

theorem jumpLong_eq (s : State) (b : Byte) (q : Word16) :
    s.jumpLong b q =
      { s with
        pc := (s.jumpLong b q).pc
        pbr := (s.jumpLong b q).pbr } := rfl

@[simp] theorem jumpLong_a (s : State) (b : Byte) (q : Word16) : (s.jumpLong b q).a = s.a := rfl

@[simp] theorem jumpLong_x (s : State) (b : Byte) (q : Word16) : (s.jumpLong b q).x = s.x := rfl

@[simp] theorem jumpLong_y (s : State) (b : Byte) (q : Word16) : (s.jumpLong b q).y = s.y := rfl

@[simp] theorem jumpLong_sp (s : State) (b : Byte) (q : Word16) : (s.jumpLong b q).sp = s.sp := rfl

@[simp] theorem jumpLong_d (s : State) (b : Byte) (q : Word16) : (s.jumpLong b q).d = s.d := rfl

@[simp] theorem jumpLong_dbr (s : State) (b : Byte) (q : Word16) :
    (s.jumpLong b q).dbr = s.dbr := rfl

@[simp] theorem jumpLong_p (s : State) (b : Byte) (q : Word16) : (s.jumpLong b q).p = s.p := rfl

@[simp] theorem jumpLong_e8 (s : State) (b : Byte) (q : Word16) : (s.jumpLong b q).e8 = s.e8 := rfl

@[simp] theorem jumpLong_e16 (s : State) (b : Byte) (q : Word16) :
    (s.jumpLong b q).e16 = s.e16 := rfl

@[simp] theorem jumpLong_waiting (s : State) (b : Byte) (q : Word16) :
    (s.jumpLong b q).waiting = s.waiting := rfl

@[simp] theorem jumpLong_stopped (s : State) (b : Byte) (q : Word16) :
    (s.jumpLong b q).stopped = s.stopped := rfl

@[simp] theorem jumpLong_nmiPending (s : State) (b : Byte) (q : Word16) :
    (s.jumpLong b q).nmiPending = s.nmiPending := rfl

@[simp] theorem jumpLong_abortPending (s : State) (b : Byte) (q : Word16) :
    (s.jumpLong b q).abortPending = s.abortPending := rfl

@[simp] theorem jumpLong_irqLow (s : State) (b : Byte) (q : Word16) :
    (s.jumpLong b q).irqLow = s.irqLow := rfl

@[simp] theorem jumpLong_ir (s : State) (b : Byte) (q : Word16) : (s.jumpLong b q).ir = s.ir := rfl

@[simp] theorem jumpLong_mem (s : State) (b : Byte) (q : Word16) :
    (s.jumpLong b q).mem = s.mem := rfl

@[simp] theorem jumpLong_inputs (s : State) (b : Byte) (q : Word16) :
    (s.jumpLong b q).inputs = s.inputs := rfl

@[simp] theorem jumpLong_draw (s : State) (b : Byte) (q : Word16) :
    (s.jumpLong b q).draw = s.draw := rfl

@[simp] theorem flag_jumpLong (s : State) (b : Byte) (q : Word16) (g : Flag) :
    (s.jumpLong b q).flag g = s.flag g := by simp [State.flag]

@[simp] theorem emu8_jumpLong (s : State) (b : Byte) (q : Word16) :
    (s.jumpLong b q).emu8 = s.emu8 := by simp [State.emu8]

@[simp] theorem mode_jumpLong (s : State) (b : Byte) (q : Word16) :
    (s.jumpLong b q).mode = s.mode := by simp [State.mode]

@[simp] theorem mw_jumpLong (s : State) (b : Byte) (q : Word16) :
    (s.jumpLong b q).mw = s.mw := by simp [State.mw]

@[simp] theorem xw_jumpLong (s : State) (b : Byte) (q : Word16) :
    (s.jumpLong b q).xw = s.xw := by simp [State.xw]

@[simp] theorem readByte_jumpLong (s : State) (b : Byte) (q : Word16) (i : Nat) :
    (s.jumpLong b q).readByte i = s.readByte i := by simp [State.readByte]

/-! ### `jumpTo24` -/

theorem jumpTo24_eq (s : State) (q : Long24) :
    s.jumpTo24 q =
      { s with
        pc := (s.jumpTo24 q).pc
        pbr := (s.jumpTo24 q).pbr } := rfl

@[simp] theorem jumpTo24_a (s : State) (q : Long24) : (s.jumpTo24 q).a = s.a := rfl

@[simp] theorem jumpTo24_x (s : State) (q : Long24) : (s.jumpTo24 q).x = s.x := rfl

@[simp] theorem jumpTo24_y (s : State) (q : Long24) : (s.jumpTo24 q).y = s.y := rfl

@[simp] theorem jumpTo24_sp (s : State) (q : Long24) : (s.jumpTo24 q).sp = s.sp := rfl

@[simp] theorem jumpTo24_d (s : State) (q : Long24) : (s.jumpTo24 q).d = s.d := rfl

@[simp] theorem jumpTo24_dbr (s : State) (q : Long24) : (s.jumpTo24 q).dbr = s.dbr := rfl

@[simp] theorem jumpTo24_p (s : State) (q : Long24) : (s.jumpTo24 q).p = s.p := rfl

@[simp] theorem jumpTo24_e8 (s : State) (q : Long24) : (s.jumpTo24 q).e8 = s.e8 := rfl

@[simp] theorem jumpTo24_e16 (s : State) (q : Long24) : (s.jumpTo24 q).e16 = s.e16 := rfl

@[simp] theorem jumpTo24_waiting (s : State) (q : Long24) :
    (s.jumpTo24 q).waiting = s.waiting := rfl

@[simp] theorem jumpTo24_stopped (s : State) (q : Long24) :
    (s.jumpTo24 q).stopped = s.stopped := rfl

@[simp] theorem jumpTo24_nmiPending (s : State) (q : Long24) :
    (s.jumpTo24 q).nmiPending = s.nmiPending := rfl

@[simp] theorem jumpTo24_abortPending (s : State) (q : Long24) :
    (s.jumpTo24 q).abortPending = s.abortPending := rfl

@[simp] theorem jumpTo24_irqLow (s : State) (q : Long24) : (s.jumpTo24 q).irqLow = s.irqLow := rfl

@[simp] theorem jumpTo24_ir (s : State) (q : Long24) : (s.jumpTo24 q).ir = s.ir := rfl

@[simp] theorem jumpTo24_mem (s : State) (q : Long24) : (s.jumpTo24 q).mem = s.mem := rfl

@[simp] theorem jumpTo24_inputs (s : State) (q : Long24) : (s.jumpTo24 q).inputs = s.inputs := rfl

@[simp] theorem jumpTo24_draw (s : State) (q : Long24) : (s.jumpTo24 q).draw = s.draw := rfl

@[simp] theorem flag_jumpTo24 (s : State) (q : Long24) (g : Flag) :
    (s.jumpTo24 q).flag g = s.flag g := by simp [State.flag]

@[simp] theorem emu8_jumpTo24 (s : State) (q : Long24) :
    (s.jumpTo24 q).emu8 = s.emu8 := by simp [State.emu8]

@[simp] theorem mode_jumpTo24 (s : State) (q : Long24) :
    (s.jumpTo24 q).mode = s.mode := by simp [State.mode]

@[simp] theorem mw_jumpTo24 (s : State) (q : Long24) :
    (s.jumpTo24 q).mw = s.mw := by simp [State.mw]

@[simp] theorem xw_jumpTo24 (s : State) (q : Long24) :
    (s.jumpTo24 q).xw = s.xw := by simp [State.xw]

@[simp] theorem readByte_jumpTo24 (s : State) (q : Long24) (i : Nat) :
    (s.jumpTo24 q).readByte i = s.readByte i := by simp [State.readByte]

/-! ### `setP` -/

theorem setP_eq (s : State) (v : Byte) :
    s.setP v =
      { s with
        p := (s.setP v).p
        x := (s.setP v).x
        y := (s.setP v).y } := rfl

@[simp] theorem setP_a (s : State) (v : Byte) : (s.setP v).a = s.a := rfl

@[simp] theorem setP_sp (s : State) (v : Byte) : (s.setP v).sp = s.sp := rfl

@[simp] theorem setP_d (s : State) (v : Byte) : (s.setP v).d = s.d := rfl

@[simp] theorem setP_dbr (s : State) (v : Byte) : (s.setP v).dbr = s.dbr := rfl

@[simp] theorem setP_pbr (s : State) (v : Byte) : (s.setP v).pbr = s.pbr := rfl

@[simp] theorem setP_pc (s : State) (v : Byte) : (s.setP v).pc = s.pc := rfl

@[simp] theorem setP_e8 (s : State) (v : Byte) : (s.setP v).e8 = s.e8 := rfl

@[simp] theorem setP_e16 (s : State) (v : Byte) : (s.setP v).e16 = s.e16 := rfl

@[simp] theorem setP_waiting (s : State) (v : Byte) : (s.setP v).waiting = s.waiting := rfl

@[simp] theorem setP_stopped (s : State) (v : Byte) : (s.setP v).stopped = s.stopped := rfl

@[simp] theorem setP_nmiPending (s : State) (v : Byte) : (s.setP v).nmiPending = s.nmiPending := rfl

@[simp] theorem setP_abortPending (s : State) (v : Byte) :
    (s.setP v).abortPending = s.abortPending := rfl

@[simp] theorem setP_irqLow (s : State) (v : Byte) : (s.setP v).irqLow = s.irqLow := rfl

@[simp] theorem setP_ir (s : State) (v : Byte) : (s.setP v).ir = s.ir := rfl

@[simp] theorem setP_mem (s : State) (v : Byte) : (s.setP v).mem = s.mem := rfl

@[simp] theorem setP_inputs (s : State) (v : Byte) : (s.setP v).inputs = s.inputs := rfl

@[simp] theorem setP_draw (s : State) (v : Byte) : (s.setP v).draw = s.draw := rfl

@[simp] theorem emu8_setP (s : State) (v : Byte) : (s.setP v).emu8 = s.emu8 := by simp [State.emu8]

@[simp] theorem mode_setP (s : State) (v : Byte) : (s.setP v).mode = s.mode := by simp [State.mode]

@[simp] theorem readByte_setP (s : State) (v : Byte) (i : Nat) :
    (s.setP v).readByte i = s.readByte i := by simp [State.readByte]

/-! ### `enterMode` -/

theorem enterMode_eq (s : State) :
    s.enterMode =
      { s with
        p := (s.enterMode).p
        x := (s.enterMode).x
        y := (s.enterMode).y
        sp := (s.enterMode).sp } := by unfold State.enterMode; split <;> rfl

@[simp] theorem enterMode_a (s : State) :
    (s.enterMode).a = s.a := by unfold State.enterMode; split <;> rfl

@[simp] theorem enterMode_d (s : State) :
    (s.enterMode).d = s.d := by unfold State.enterMode; split <;> rfl

@[simp] theorem enterMode_dbr (s : State) :
    (s.enterMode).dbr = s.dbr := by unfold State.enterMode; split <;> rfl

@[simp] theorem enterMode_pbr (s : State) :
    (s.enterMode).pbr = s.pbr := by unfold State.enterMode; split <;> rfl

@[simp] theorem enterMode_pc (s : State) :
    (s.enterMode).pc = s.pc := by unfold State.enterMode; split <;> rfl

@[simp] theorem enterMode_e8 (s : State) :
    (s.enterMode).e8 = s.e8 := by unfold State.enterMode; split <;> rfl

@[simp] theorem enterMode_e16 (s : State) :
    (s.enterMode).e16 = s.e16 := by unfold State.enterMode; split <;> rfl

@[simp] theorem enterMode_waiting (s : State) :
    (s.enterMode).waiting = s.waiting := by unfold State.enterMode; split <;> rfl

@[simp] theorem enterMode_stopped (s : State) :
    (s.enterMode).stopped = s.stopped := by unfold State.enterMode; split <;> rfl

@[simp] theorem enterMode_nmiPending (s : State) :
    (s.enterMode).nmiPending = s.nmiPending := by unfold State.enterMode; split <;> rfl

@[simp] theorem enterMode_abortPending (s : State) :
    (s.enterMode).abortPending = s.abortPending := by unfold State.enterMode; split <;> rfl

@[simp] theorem enterMode_irqLow (s : State) :
    (s.enterMode).irqLow = s.irqLow := by unfold State.enterMode; split <;> rfl

@[simp] theorem enterMode_ir (s : State) :
    (s.enterMode).ir = s.ir := by unfold State.enterMode; split <;> rfl

@[simp] theorem enterMode_mem (s : State) :
    (s.enterMode).mem = s.mem := by unfold State.enterMode; split <;> rfl

@[simp] theorem enterMode_inputs (s : State) :
    (s.enterMode).inputs = s.inputs := by unfold State.enterMode; split <;> rfl

@[simp] theorem enterMode_draw (s : State) :
    (s.enterMode).draw = s.draw := by unfold State.enterMode; split <;> rfl

@[simp] theorem emu8_enterMode (s : State) : (s.enterMode).emu8 = s.emu8 := by simp [State.emu8]

@[simp] theorem mode_enterMode (s : State) : (s.enterMode).mode = s.mode := by simp [State.mode]

@[simp] theorem readByte_enterMode (s : State) (i : Nat) :
    (s.enterMode).readByte i = s.readByte i := by simp [State.readByte]

/-! ### `push8` -/

theorem push8_eq (s : State) (v : Byte) :
    s.push8 v =
      { s with
        sp := (s.push8 v).sp
        mem := (s.push8 v).mem } := rfl

@[simp] theorem push8_a (s : State) (v : Byte) : (s.push8 v).a = s.a := rfl

@[simp] theorem push8_x (s : State) (v : Byte) : (s.push8 v).x = s.x := rfl

@[simp] theorem push8_y (s : State) (v : Byte) : (s.push8 v).y = s.y := rfl

@[simp] theorem push8_d (s : State) (v : Byte) : (s.push8 v).d = s.d := rfl

@[simp] theorem push8_dbr (s : State) (v : Byte) : (s.push8 v).dbr = s.dbr := rfl

@[simp] theorem push8_pbr (s : State) (v : Byte) : (s.push8 v).pbr = s.pbr := rfl

@[simp] theorem push8_pc (s : State) (v : Byte) : (s.push8 v).pc = s.pc := rfl

@[simp] theorem push8_p (s : State) (v : Byte) : (s.push8 v).p = s.p := rfl

@[simp] theorem push8_e8 (s : State) (v : Byte) : (s.push8 v).e8 = s.e8 := rfl

@[simp] theorem push8_e16 (s : State) (v : Byte) : (s.push8 v).e16 = s.e16 := rfl

@[simp] theorem push8_waiting (s : State) (v : Byte) : (s.push8 v).waiting = s.waiting := rfl

@[simp] theorem push8_stopped (s : State) (v : Byte) : (s.push8 v).stopped = s.stopped := rfl

@[simp] theorem push8_nmiPending (s : State) (v : Byte) :
    (s.push8 v).nmiPending = s.nmiPending := rfl

@[simp] theorem push8_abortPending (s : State) (v : Byte) :
    (s.push8 v).abortPending = s.abortPending := rfl

@[simp] theorem push8_irqLow (s : State) (v : Byte) : (s.push8 v).irqLow = s.irqLow := rfl

@[simp] theorem push8_ir (s : State) (v : Byte) : (s.push8 v).ir = s.ir := rfl

@[simp] theorem push8_inputs (s : State) (v : Byte) : (s.push8 v).inputs = s.inputs := rfl

@[simp] theorem push8_draw (s : State) (v : Byte) : (s.push8 v).draw = s.draw := rfl

@[simp] theorem flag_push8 (s : State) (v : Byte) (g : Flag) :
    (s.push8 v).flag g = s.flag g := by simp [State.flag]

@[simp] theorem emu8_push8 (s : State) (v : Byte) :
    (s.push8 v).emu8 = s.emu8 := by simp [State.emu8]

@[simp] theorem mode_push8 (s : State) (v : Byte) :
    (s.push8 v).mode = s.mode := by simp [State.mode]

@[simp] theorem mw_push8 (s : State) (v : Byte) : (s.push8 v).mw = s.mw := by simp [State.mw]

@[simp] theorem xw_push8 (s : State) (v : Byte) : (s.push8 v).xw = s.xw := by simp [State.xw]

/-! ### `popped` -/

theorem popped_eq (s : State) :
    s.popped =
      { s with
        sp := (s.popped).sp } := rfl

@[simp] theorem popped_a (s : State) : (s.popped).a = s.a := rfl

@[simp] theorem popped_x (s : State) : (s.popped).x = s.x := rfl

@[simp] theorem popped_y (s : State) : (s.popped).y = s.y := rfl

@[simp] theorem popped_d (s : State) : (s.popped).d = s.d := rfl

@[simp] theorem popped_dbr (s : State) : (s.popped).dbr = s.dbr := rfl

@[simp] theorem popped_pbr (s : State) : (s.popped).pbr = s.pbr := rfl

@[simp] theorem popped_pc (s : State) : (s.popped).pc = s.pc := rfl

@[simp] theorem popped_p (s : State) : (s.popped).p = s.p := rfl

@[simp] theorem popped_e8 (s : State) : (s.popped).e8 = s.e8 := rfl

@[simp] theorem popped_e16 (s : State) : (s.popped).e16 = s.e16 := rfl

@[simp] theorem popped_waiting (s : State) : (s.popped).waiting = s.waiting := rfl

@[simp] theorem popped_stopped (s : State) : (s.popped).stopped = s.stopped := rfl

@[simp] theorem popped_nmiPending (s : State) : (s.popped).nmiPending = s.nmiPending := rfl

@[simp] theorem popped_abortPending (s : State) : (s.popped).abortPending = s.abortPending := rfl

@[simp] theorem popped_irqLow (s : State) : (s.popped).irqLow = s.irqLow := rfl

@[simp] theorem popped_ir (s : State) : (s.popped).ir = s.ir := rfl

@[simp] theorem popped_mem (s : State) : (s.popped).mem = s.mem := rfl

@[simp] theorem popped_inputs (s : State) : (s.popped).inputs = s.inputs := rfl

@[simp] theorem popped_draw (s : State) : (s.popped).draw = s.draw := rfl

@[simp] theorem flag_popped (s : State) (g : Flag) :
    (s.popped).flag g = s.flag g := by simp [State.flag]

@[simp] theorem emu8_popped (s : State) : (s.popped).emu8 = s.emu8 := by simp [State.emu8]

@[simp] theorem mode_popped (s : State) : (s.popped).mode = s.mode := by simp [State.mode]

@[simp] theorem mw_popped (s : State) : (s.popped).mw = s.mw := by simp [State.mw]

@[simp] theorem xw_popped (s : State) : (s.popped).xw = s.xw := by simp [State.xw]

@[simp] theorem readByte_popped (s : State) (i : Nat) :
    (s.popped).readByte i = s.readByte i := by simp [State.readByte]

/-! ### `pushN` -/

/-- Pushes change S and memory alone. -/
theorem pushN_eq (s : State) (v n : Nat) :
    s.pushN v n = { s with sp := (s.pushN v n).sp, mem := (s.pushN v n).mem } := by
  induction n generalizing s with
  | zero => rfl
  | succ n ih =>
    rw [State.pushN]
    conv_lhs => rw [ih]
    rfl

@[simp] theorem pushN_a (s : State) (v n : Nat) : (s.pushN v n).a = s.a := by rw [pushN_eq]

@[simp] theorem pushN_x (s : State) (v n : Nat) : (s.pushN v n).x = s.x := by rw [pushN_eq]

@[simp] theorem pushN_y (s : State) (v n : Nat) : (s.pushN v n).y = s.y := by rw [pushN_eq]

@[simp] theorem pushN_d (s : State) (v n : Nat) : (s.pushN v n).d = s.d := by rw [pushN_eq]

@[simp] theorem pushN_dbr (s : State) (v n : Nat) : (s.pushN v n).dbr = s.dbr := by rw [pushN_eq]

@[simp] theorem pushN_pbr (s : State) (v n : Nat) : (s.pushN v n).pbr = s.pbr := by rw [pushN_eq]

@[simp] theorem pushN_pc (s : State) (v n : Nat) : (s.pushN v n).pc = s.pc := by rw [pushN_eq]

@[simp] theorem pushN_p (s : State) (v n : Nat) : (s.pushN v n).p = s.p := by rw [pushN_eq]

@[simp] theorem pushN_e8 (s : State) (v n : Nat) : (s.pushN v n).e8 = s.e8 := by rw [pushN_eq]

@[simp] theorem pushN_e16 (s : State) (v n : Nat) : (s.pushN v n).e16 = s.e16 := by rw [pushN_eq]

@[simp] theorem pushN_waiting (s : State) (v n : Nat) :
    (s.pushN v n).waiting = s.waiting := by rw [pushN_eq]

@[simp] theorem pushN_stopped (s : State) (v n : Nat) :
    (s.pushN v n).stopped = s.stopped := by rw [pushN_eq]

@[simp] theorem pushN_nmiPending (s : State) (v n : Nat) :
    (s.pushN v n).nmiPending = s.nmiPending := by rw [pushN_eq]

@[simp] theorem pushN_abortPending (s : State) (v n : Nat) :
    (s.pushN v n).abortPending = s.abortPending := by rw [pushN_eq]

@[simp] theorem pushN_irqLow (s : State) (v n : Nat) :
    (s.pushN v n).irqLow = s.irqLow := by rw [pushN_eq]

@[simp] theorem pushN_ir (s : State) (v n : Nat) : (s.pushN v n).ir = s.ir := by rw [pushN_eq]

@[simp] theorem pushN_inputs (s : State) (v n : Nat) :
    (s.pushN v n).inputs = s.inputs := by rw [pushN_eq]

@[simp] theorem pushN_draw (s : State) (v n : Nat) : (s.pushN v n).draw = s.draw := by rw [pushN_eq]

@[simp] theorem flag_pushN (s : State) (v n : Nat) (g : Flag) :
    (s.pushN v n).flag g = s.flag g := by simp [State.flag]

@[simp] theorem emu8_pushN (s : State) (v n : Nat) :
    (s.pushN v n).emu8 = s.emu8 := by simp [State.emu8]

@[simp] theorem mode_pushN (s : State) (v n : Nat) :
    (s.pushN v n).mode = s.mode := by simp [State.mode]

@[simp] theorem mw_pushN (s : State) (v n : Nat) : (s.pushN v n).mw = s.mw := by simp [State.mw]

@[simp] theorem xw_pushN (s : State) (v n : Nat) : (s.pushN v n).xw = s.xw := by simp [State.xw]

/-! ### `pullN` -/

/-- Pulls change S alone. -/
theorem pullN_eq (s : State) (n : Nat) : s.pullN n = { s with sp := (s.pullN n).sp } := by
  induction n generalizing s with
  | zero => rfl
  | succ n ih =>
    rw [State.pullN]
    conv_lhs => rw [ih]
    rfl

@[simp] theorem pullN_a (s : State) (n : Nat) : (s.pullN n).a = s.a := by rw [pullN_eq]

@[simp] theorem pullN_x (s : State) (n : Nat) : (s.pullN n).x = s.x := by rw [pullN_eq]

@[simp] theorem pullN_y (s : State) (n : Nat) : (s.pullN n).y = s.y := by rw [pullN_eq]

@[simp] theorem pullN_d (s : State) (n : Nat) : (s.pullN n).d = s.d := by rw [pullN_eq]

@[simp] theorem pullN_dbr (s : State) (n : Nat) : (s.pullN n).dbr = s.dbr := by rw [pullN_eq]

@[simp] theorem pullN_pbr (s : State) (n : Nat) : (s.pullN n).pbr = s.pbr := by rw [pullN_eq]

@[simp] theorem pullN_pc (s : State) (n : Nat) : (s.pullN n).pc = s.pc := by rw [pullN_eq]

@[simp] theorem pullN_p (s : State) (n : Nat) : (s.pullN n).p = s.p := by rw [pullN_eq]

@[simp] theorem pullN_e8 (s : State) (n : Nat) : (s.pullN n).e8 = s.e8 := by rw [pullN_eq]

@[simp] theorem pullN_e16 (s : State) (n : Nat) : (s.pullN n).e16 = s.e16 := by rw [pullN_eq]

@[simp] theorem pullN_waiting (s : State) (n : Nat) :
    (s.pullN n).waiting = s.waiting := by rw [pullN_eq]

@[simp] theorem pullN_stopped (s : State) (n : Nat) :
    (s.pullN n).stopped = s.stopped := by rw [pullN_eq]

@[simp] theorem pullN_nmiPending (s : State) (n : Nat) :
    (s.pullN n).nmiPending = s.nmiPending := by rw [pullN_eq]

@[simp] theorem pullN_abortPending (s : State) (n : Nat) :
    (s.pullN n).abortPending = s.abortPending := by rw [pullN_eq]

@[simp] theorem pullN_irqLow (s : State) (n : Nat) :
    (s.pullN n).irqLow = s.irqLow := by rw [pullN_eq]

@[simp] theorem pullN_ir (s : State) (n : Nat) : (s.pullN n).ir = s.ir := by rw [pullN_eq]

@[simp] theorem pullN_mem (s : State) (n : Nat) : (s.pullN n).mem = s.mem := by rw [pullN_eq]

@[simp] theorem pullN_inputs (s : State) (n : Nat) :
    (s.pullN n).inputs = s.inputs := by rw [pullN_eq]

@[simp] theorem pullN_draw (s : State) (n : Nat) : (s.pullN n).draw = s.draw := by rw [pullN_eq]

@[simp] theorem flag_pullN (s : State) (n : Nat) (g : Flag) :
    (s.pullN n).flag g = s.flag g := by simp [State.flag]

@[simp] theorem emu8_pullN (s : State) (n : Nat) : (s.pullN n).emu8 = s.emu8 := by simp [State.emu8]

@[simp] theorem mode_pullN (s : State) (n : Nat) : (s.pullN n).mode = s.mode := by simp [State.mode]

@[simp] theorem mw_pullN (s : State) (n : Nat) : (s.pullN n).mw = s.mw := by simp [State.mw]

@[simp] theorem xw_pullN (s : State) (n : Nat) : (s.pullN n).xw = s.xw := by simp [State.xw]

@[simp] theorem readByte_pullN (s : State) (n : Nat) (i : Nat) :
    (s.pullN n).readByte i = s.readByte i := by simp [State.readByte]

/-! ### `pushFrame` -/

/-- Pushing an interrupt frame changes S and memory alone. -/
theorem pushFrame_eq (s : State) (q : Word16) (v : Byte) (fs : List FrameItem) :
    s.pushFrame q v fs =
      { s with sp := (s.pushFrame q v fs).sp, mem := (s.pushFrame q v fs).mem } := by
  induction fs generalizing s with
  | nil => rfl
  | cons f fs ih =>
    rw [State.pushFrame]
    conv_lhs => rw [ih]
    cases f <;> rfl

@[simp] theorem pushFrame_a (s : State) (q : Word16) (v : Byte) (fs : List FrameItem) :
    (s.pushFrame q v fs).a = s.a := by rw [pushFrame_eq]

@[simp] theorem pushFrame_x (s : State) (q : Word16) (v : Byte) (fs : List FrameItem) :
    (s.pushFrame q v fs).x = s.x := by rw [pushFrame_eq]

@[simp] theorem pushFrame_y (s : State) (q : Word16) (v : Byte) (fs : List FrameItem) :
    (s.pushFrame q v fs).y = s.y := by rw [pushFrame_eq]

@[simp] theorem pushFrame_d (s : State) (q : Word16) (v : Byte) (fs : List FrameItem) :
    (s.pushFrame q v fs).d = s.d := by rw [pushFrame_eq]

@[simp] theorem pushFrame_dbr (s : State) (q : Word16) (v : Byte) (fs : List FrameItem) :
    (s.pushFrame q v fs).dbr = s.dbr := by rw [pushFrame_eq]

@[simp] theorem pushFrame_pbr (s : State) (q : Word16) (v : Byte) (fs : List FrameItem) :
    (s.pushFrame q v fs).pbr = s.pbr := by rw [pushFrame_eq]

@[simp] theorem pushFrame_pc (s : State) (q : Word16) (v : Byte) (fs : List FrameItem) :
    (s.pushFrame q v fs).pc = s.pc := by rw [pushFrame_eq]

@[simp] theorem pushFrame_p (s : State) (q : Word16) (v : Byte) (fs : List FrameItem) :
    (s.pushFrame q v fs).p = s.p := by rw [pushFrame_eq]

@[simp] theorem pushFrame_e8 (s : State) (q : Word16) (v : Byte) (fs : List FrameItem) :
    (s.pushFrame q v fs).e8 = s.e8 := by rw [pushFrame_eq]

@[simp] theorem pushFrame_e16 (s : State) (q : Word16) (v : Byte) (fs : List FrameItem) :
    (s.pushFrame q v fs).e16 = s.e16 := by rw [pushFrame_eq]

@[simp] theorem pushFrame_waiting (s : State) (q : Word16) (v : Byte) (fs : List FrameItem) :
    (s.pushFrame q v fs).waiting = s.waiting := by rw [pushFrame_eq]

@[simp] theorem pushFrame_stopped (s : State) (q : Word16) (v : Byte) (fs : List FrameItem) :
    (s.pushFrame q v fs).stopped = s.stopped := by rw [pushFrame_eq]

@[simp] theorem pushFrame_nmiPending (s : State) (q : Word16) (v : Byte) (fs : List FrameItem) :
    (s.pushFrame q v fs).nmiPending = s.nmiPending := by rw [pushFrame_eq]

@[simp] theorem pushFrame_abortPending (s : State) (q : Word16) (v : Byte) (fs : List FrameItem) :
    (s.pushFrame q v fs).abortPending = s.abortPending := by rw [pushFrame_eq]

@[simp] theorem pushFrame_irqLow (s : State) (q : Word16) (v : Byte) (fs : List FrameItem) :
    (s.pushFrame q v fs).irqLow = s.irqLow := by rw [pushFrame_eq]

@[simp] theorem pushFrame_ir (s : State) (q : Word16) (v : Byte) (fs : List FrameItem) :
    (s.pushFrame q v fs).ir = s.ir := by rw [pushFrame_eq]

@[simp] theorem pushFrame_inputs (s : State) (q : Word16) (v : Byte) (fs : List FrameItem) :
    (s.pushFrame q v fs).inputs = s.inputs := by rw [pushFrame_eq]

@[simp] theorem pushFrame_draw (s : State) (q : Word16) (v : Byte) (fs : List FrameItem) :
    (s.pushFrame q v fs).draw = s.draw := by rw [pushFrame_eq]

@[simp] theorem flag_pushFrame (s : State) (q : Word16) (v : Byte) (fs : List FrameItem) (g : Flag) :
    (s.pushFrame q v fs).flag g = s.flag g := by
  simp [State.flag]

@[simp] theorem emu8_pushFrame (s : State) (q : Word16) (v : Byte) (fs : List FrameItem) :
    (s.pushFrame q v fs).emu8 = s.emu8 := by simp [State.emu8]

@[simp] theorem mode_pushFrame (s : State) (q : Word16) (v : Byte) (fs : List FrameItem) :
    (s.pushFrame q v fs).mode = s.mode := by simp [State.mode]

@[simp] theorem mw_pushFrame (s : State) (q : Word16) (v : Byte) (fs : List FrameItem) :
    (s.pushFrame q v fs).mw = s.mw := by simp [State.mw]

@[simp] theorem xw_pushFrame (s : State) (q : Word16) (v : Byte) (fs : List FrameItem) :
    (s.pushFrame q v fs).xw = s.xw := by simp [State.xw]

/-! ### `pullFrame` -/

/-- Pulling an interrupt frame changes S, PC, PBR, P, X and Y alone. -/
theorem pullFrame_eq (s : State) (fs : List FrameItem) :
    s.pullFrame fs =
      { s with
        sp := (s.pullFrame fs).sp, pc := (s.pullFrame fs).pc, pbr := (s.pullFrame fs).pbr
        p := (s.pullFrame fs).p, x := (s.pullFrame fs).x, y := (s.pullFrame fs).y } := by
  induction fs generalizing s with
  | nil => rfl
  | cons f fs ih =>
    rw [State.pullFrame]
    conv_lhs => rw [ih]
    cases f <;> rfl

@[simp] theorem pullFrame_a (s : State) (fs : List FrameItem) :
    (s.pullFrame fs).a = s.a := by rw [pullFrame_eq]

@[simp] theorem pullFrame_d (s : State) (fs : List FrameItem) :
    (s.pullFrame fs).d = s.d := by rw [pullFrame_eq]

@[simp] theorem pullFrame_dbr (s : State) (fs : List FrameItem) :
    (s.pullFrame fs).dbr = s.dbr := by rw [pullFrame_eq]

@[simp] theorem pullFrame_e8 (s : State) (fs : List FrameItem) :
    (s.pullFrame fs).e8 = s.e8 := by rw [pullFrame_eq]

@[simp] theorem pullFrame_e16 (s : State) (fs : List FrameItem) :
    (s.pullFrame fs).e16 = s.e16 := by rw [pullFrame_eq]

@[simp] theorem pullFrame_waiting (s : State) (fs : List FrameItem) :
    (s.pullFrame fs).waiting = s.waiting := by rw [pullFrame_eq]

@[simp] theorem pullFrame_stopped (s : State) (fs : List FrameItem) :
    (s.pullFrame fs).stopped = s.stopped := by rw [pullFrame_eq]

@[simp] theorem pullFrame_nmiPending (s : State) (fs : List FrameItem) :
    (s.pullFrame fs).nmiPending = s.nmiPending := by rw [pullFrame_eq]

@[simp] theorem pullFrame_abortPending (s : State) (fs : List FrameItem) :
    (s.pullFrame fs).abortPending = s.abortPending := by rw [pullFrame_eq]

@[simp] theorem pullFrame_irqLow (s : State) (fs : List FrameItem) :
    (s.pullFrame fs).irqLow = s.irqLow := by rw [pullFrame_eq]

@[simp] theorem pullFrame_ir (s : State) (fs : List FrameItem) :
    (s.pullFrame fs).ir = s.ir := by rw [pullFrame_eq]

@[simp] theorem pullFrame_mem (s : State) (fs : List FrameItem) :
    (s.pullFrame fs).mem = s.mem := by rw [pullFrame_eq]

@[simp] theorem pullFrame_inputs (s : State) (fs : List FrameItem) :
    (s.pullFrame fs).inputs = s.inputs := by rw [pullFrame_eq]

@[simp] theorem pullFrame_draw (s : State) (fs : List FrameItem) :
    (s.pullFrame fs).draw = s.draw := by rw [pullFrame_eq]

@[simp] theorem emu8_pullFrame (s : State) (fs : List FrameItem) :
    (s.pullFrame fs).emu8 = s.emu8 := by simp [State.emu8]

@[simp] theorem mode_pullFrame (s : State) (fs : List FrameItem) :
    (s.pullFrame fs).mode = s.mode := by simp [State.mode]

@[simp] theorem readByte_pullFrame (s : State) (fs : List FrameItem) (i : Nat) :
    (s.pullFrame fs).readByte i = s.readByte i := by simp [State.readByte]

/-! ### `returnFromInterrupt` -/

theorem returnFromInterrupt_eq (s : State) :
    s.returnFromInterrupt =
      { s with
        sp := (s.returnFromInterrupt).sp
        pc := (s.returnFromInterrupt).pc
        pbr := (s.returnFromInterrupt).pbr
        p := (s.returnFromInterrupt).p
        x := (s.returnFromInterrupt).x
        y := (s.returnFromInterrupt).y } := pullFrame_eq s _

@[simp] theorem returnFromInterrupt_a (s : State) :
    (s.returnFromInterrupt).a = s.a := by rw [State.returnFromInterrupt, pullFrame_eq]

@[simp] theorem returnFromInterrupt_d (s : State) :
    (s.returnFromInterrupt).d = s.d := by rw [State.returnFromInterrupt, pullFrame_eq]

@[simp] theorem returnFromInterrupt_dbr (s : State) :
    (s.returnFromInterrupt).dbr = s.dbr := by rw [State.returnFromInterrupt, pullFrame_eq]

@[simp] theorem returnFromInterrupt_e8 (s : State) :
    (s.returnFromInterrupt).e8 = s.e8 := by rw [State.returnFromInterrupt, pullFrame_eq]

@[simp] theorem returnFromInterrupt_e16 (s : State) :
    (s.returnFromInterrupt).e16 = s.e16 := by rw [State.returnFromInterrupt, pullFrame_eq]

@[simp] theorem returnFromInterrupt_waiting (s : State) :
    (s.returnFromInterrupt).waiting = s.waiting := by rw [State.returnFromInterrupt, pullFrame_eq]

@[simp] theorem returnFromInterrupt_stopped (s : State) :
    (s.returnFromInterrupt).stopped = s.stopped := by rw [State.returnFromInterrupt, pullFrame_eq]

@[simp] theorem returnFromInterrupt_nmiPending (s : State) :
    (s.returnFromInterrupt).nmiPending = s.nmiPending := by
  rw [State.returnFromInterrupt, pullFrame_eq]

@[simp] theorem returnFromInterrupt_abortPending (s : State) :
    (s.returnFromInterrupt).abortPending = s.abortPending := by
  rw [State.returnFromInterrupt, pullFrame_eq]

@[simp] theorem returnFromInterrupt_irqLow (s : State) :
    (s.returnFromInterrupt).irqLow = s.irqLow := by rw [State.returnFromInterrupt, pullFrame_eq]

@[simp] theorem returnFromInterrupt_ir (s : State) :
    (s.returnFromInterrupt).ir = s.ir := by rw [State.returnFromInterrupt, pullFrame_eq]

@[simp] theorem returnFromInterrupt_mem (s : State) :
    (s.returnFromInterrupt).mem = s.mem := by rw [State.returnFromInterrupt, pullFrame_eq]

@[simp] theorem returnFromInterrupt_inputs (s : State) :
    (s.returnFromInterrupt).inputs = s.inputs := by rw [State.returnFromInterrupt, pullFrame_eq]

@[simp] theorem returnFromInterrupt_draw (s : State) :
    (s.returnFromInterrupt).draw = s.draw := by rw [State.returnFromInterrupt, pullFrame_eq]

@[simp] theorem emu8_returnFromInterrupt (s : State) :
    (s.returnFromInterrupt).emu8 = s.emu8 := by simp [State.emu8]

@[simp] theorem mode_returnFromInterrupt (s : State) :
    (s.returnFromInterrupt).mode = s.mode := by simp [State.mode]

@[simp] theorem readByte_returnFromInterrupt (s : State) (i : Nat) :
    (s.returnFromInterrupt).readByte i = s.readByte i := by simp [State.readByte]

/-! ### `takeInterrupt` -/

theorem takeInterrupt_eq (s : State) (k : Interrupt) (q : Word16) :
    s.takeInterrupt k q =
      { s with
        sp := (s.takeInterrupt k q).sp
        mem := (s.takeInterrupt k q).mem
        p := (s.takeInterrupt k q).p
        pbr := (s.takeInterrupt k q).pbr
        pc := (s.takeInterrupt k q).pc
        waiting := (s.takeInterrupt k q).waiting
        nmiPending := (s.takeInterrupt k q).nmiPending
        abortPending := (s.takeInterrupt k q).abortPending } := by
  rw [State.takeInterrupt, pushFrame_eq]

@[simp] theorem takeInterrupt_a (s : State) (k : Interrupt) (q : Word16) :
    (s.takeInterrupt k q).a = s.a := by simp [State.takeInterrupt]

@[simp] theorem takeInterrupt_x (s : State) (k : Interrupt) (q : Word16) :
    (s.takeInterrupt k q).x = s.x := by simp [State.takeInterrupt]

@[simp] theorem takeInterrupt_y (s : State) (k : Interrupt) (q : Word16) :
    (s.takeInterrupt k q).y = s.y := by simp [State.takeInterrupt]

@[simp] theorem takeInterrupt_d (s : State) (k : Interrupt) (q : Word16) :
    (s.takeInterrupt k q).d = s.d := by simp [State.takeInterrupt]

@[simp] theorem takeInterrupt_dbr (s : State) (k : Interrupt) (q : Word16) :
    (s.takeInterrupt k q).dbr = s.dbr := by simp [State.takeInterrupt]

@[simp] theorem takeInterrupt_e8 (s : State) (k : Interrupt) (q : Word16) :
    (s.takeInterrupt k q).e8 = s.e8 := by simp [State.takeInterrupt]

@[simp] theorem takeInterrupt_e16 (s : State) (k : Interrupt) (q : Word16) :
    (s.takeInterrupt k q).e16 = s.e16 := by simp [State.takeInterrupt]

@[simp] theorem takeInterrupt_stopped (s : State) (k : Interrupt) (q : Word16) :
    (s.takeInterrupt k q).stopped = s.stopped := by simp [State.takeInterrupt]

@[simp] theorem takeInterrupt_irqLow (s : State) (k : Interrupt) (q : Word16) :
    (s.takeInterrupt k q).irqLow = s.irqLow := by simp [State.takeInterrupt]

@[simp] theorem takeInterrupt_ir (s : State) (k : Interrupt) (q : Word16) :
    (s.takeInterrupt k q).ir = s.ir := by simp [State.takeInterrupt]

@[simp] theorem takeInterrupt_inputs (s : State) (k : Interrupt) (q : Word16) :
    (s.takeInterrupt k q).inputs = s.inputs := by simp [State.takeInterrupt]

@[simp] theorem takeInterrupt_draw (s : State) (k : Interrupt) (q : Word16) :
    (s.takeInterrupt k q).draw = s.draw := by simp [State.takeInterrupt]

@[simp] theorem emu8_takeInterrupt (s : State) (k : Interrupt) (q : Word16) :
    (s.takeInterrupt k q).emu8 = s.emu8 := by simp [State.emu8]

@[simp] theorem mode_takeInterrupt (s : State) (k : Interrupt) (q : Word16) :
    (s.takeInterrupt k q).mode = s.mode := by simp [State.mode]

/-! ### `latched` -/

theorem latched_eq (s : State) :
    s.latched =
      { s with
        ir := (s.latched).ir
        draw := (s.latched).draw } := rfl

@[simp] theorem latched_a (s : State) : (s.latched).a = s.a := rfl

@[simp] theorem latched_x (s : State) : (s.latched).x = s.x := rfl

@[simp] theorem latched_y (s : State) : (s.latched).y = s.y := rfl

@[simp] theorem latched_sp (s : State) : (s.latched).sp = s.sp := rfl

@[simp] theorem latched_d (s : State) : (s.latched).d = s.d := rfl

@[simp] theorem latched_dbr (s : State) : (s.latched).dbr = s.dbr := rfl

@[simp] theorem latched_pbr (s : State) : (s.latched).pbr = s.pbr := rfl

@[simp] theorem latched_pc (s : State) : (s.latched).pc = s.pc := rfl

@[simp] theorem latched_p (s : State) : (s.latched).p = s.p := rfl

@[simp] theorem latched_e8 (s : State) : (s.latched).e8 = s.e8 := rfl

@[simp] theorem latched_e16 (s : State) : (s.latched).e16 = s.e16 := rfl

@[simp] theorem latched_waiting (s : State) : (s.latched).waiting = s.waiting := rfl

@[simp] theorem latched_stopped (s : State) : (s.latched).stopped = s.stopped := rfl

@[simp] theorem latched_nmiPending (s : State) : (s.latched).nmiPending = s.nmiPending := rfl

@[simp] theorem latched_abortPending (s : State) : (s.latched).abortPending = s.abortPending := rfl

@[simp] theorem latched_irqLow (s : State) : (s.latched).irqLow = s.irqLow := rfl

@[simp] theorem latched_mem (s : State) : (s.latched).mem = s.mem := rfl

@[simp] theorem latched_inputs (s : State) : (s.latched).inputs = s.inputs := rfl

@[simp] theorem flag_latched (s : State) (g : Flag) :
    (s.latched).flag g = s.flag g := by simp [State.flag]

@[simp] theorem emu8_latched (s : State) : (s.latched).emu8 = s.emu8 := by simp [State.emu8]

@[simp] theorem mode_latched (s : State) : (s.latched).mode = s.mode := by simp [State.mode]

@[simp] theorem mw_latched (s : State) : (s.latched).mw = s.mw := by simp [State.mw]

@[simp] theorem xw_latched (s : State) : (s.latched).xw = s.xw := by simp [State.xw]

@[simp] theorem readByte_latched (s : State) (i : Nat) :
    (s.latched).readByte i = s.readByte i := by simp [State.readByte]

end Sys2Proof.Machine
end

