-- ==== Sys2Proof/Laws/Registers.lean ====
section
/-! SUPPORT. What the register writes do: the value at the width, and the bits the spec keeps. -/

namespace Sys2Proof.Machine

theorem extract_middle (u : BitVec 16) (m v : Byte) :
    ((u ++ m) ++ v : Word32).extractLsb' 8 8 = m := by
  refine BitVec.eq_of_toNat_eq ?_
  rw [BitVec.extractLsb'_toNat, Nat.shiftRight_eq_div_pow, toNat_append_eq, toNat_append_eq]
  omega

/-- "Write A at mw" (10_state.md R41): A holds the value at the width, and an 8-bit write keeps
`A[15:8]`. -/
theorem writeA_spec (s : State) (w : Width) (v : BitVec w.bits) :
    (s.writeA w v).a.setWidth w.bits = v ∧
      (w = .w8 → (s.writeA w v).a.extractLsb' 8 8 = s.a.extractLsb' 8 8) := by
  refine ⟨?_, ?_⟩
  · cases w with
    | w8 => exact BitVec.setWidth_append_eq_right
    | w16 => exact BitVec.setWidth_append_eq_right
    | w32 => exact BitVec.setWidth_eq v
  · rintro rfl
    exact extract_middle _ _ v

/-- "Write X at xw" (R41): X holds the value at the width; at 8 bits its upper bytes are zero (R23). -/
theorem writeX_spec (s : State) (w : Width) (v : BitVec w.bits) :
    (s.writeX w v).x.setWidth w.bits = v ∧
      (w = .w8 → (s.writeX w v).x.extractLsb' 8 24 = 0#24) := by
  refine ⟨?_, ?_⟩
  · cases w with
    | w8 => exact BitVec.setWidth_setWidth_of_le v (by decide)
    | w16 => exact BitVec.setWidth_append_eq_right
    | w32 => exact BitVec.setWidth_eq v
  · rintro rfl
    refine BitVec.eq_of_getLsbD_eq fun i hi => ?_
    simp [State.writeX]

/-- "Write Y at xw" (R41): as `writeX_spec`. -/
theorem writeY_spec (s : State) (w : Width) (v : BitVec w.bits) :
    (s.writeY w v).y.setWidth w.bits = v ∧
      (w = .w8 → (s.writeY w v).y.extractLsb' 8 24 = 0#24) := by
  refine ⟨?_, ?_⟩
  · cases w with
    | w8 => exact BitVec.setWidth_setWidth_of_le v (by decide)
    | w16 => exact BitVec.setWidth_append_eq_right
    | w32 => exact BitVec.setWidth_eq v
  · rintro rfl
    refine BitVec.eq_of_getLsbD_eq fun i hi => ?_
    simp [State.writeY]

/-- The value of `zeroUpper`. -/
theorem toNat_zeroUpper (v : Word32) : (zeroUpper v).toNat = v.toNat % 256 := by
  simp only [zeroUpper, BitVec.toNat_setWidth]
  omega

theorem zeroUpper_high (v : Word32) : (zeroUpper v).extractLsb' 8 24 = 0#24 := by
  refine BitVec.eq_of_toNat_eq ?_
  rw [BitVec.extractLsb'_toNat, toNat_zeroUpper, Nat.shiftRight_eq_div_pow]
  have := Nat.mod_lt v.toNat (show 0 < 256 by decide)
  simp

/-- A register whose upper bytes are zero is its own `zeroUpper`. -/
theorem zeroUpper_of_high {v : Word32} (h : v.extractLsb' 8 24 = 0#24) : zeroUpper v = v := by
  refine BitVec.eq_of_toNat_eq ?_
  rw [toNat_zeroUpper]
  have h := congrArg BitVec.toNat h
  rw [BitVec.extractLsb'_toNat, Nat.shiftRight_eq_div_pow] at h
  have := v.isLt
  simp at h
  omega

/-- The flags after `setP` (44_stack_status_system.md R317): in EMU8 M and X are 1. -/
theorem setP_flag (s : State) (v : Byte) (f : Flag) :
    (s.setP v).flag f =
      if s.emu8 = true ∧ (f = .m ∨ f = .x) then true else v.getLsbD f.pos := by
  unfold State.flag State.setP
  by_cases h : s.emu8 = true
  · simp only [h, if_true, withFlag_bit, true_and]
    by_cases hx : f = .x
    · simp [hx]
    · by_cases hm : f = .m <;> simp [hx, hm]
  · simp [h]

/-- X and Y after `setP` (R317): their upper bytes are cleared if X is 1, and else kept. -/
theorem setP_index (s : State) (v : Byte) :
    (s.setP v).x = (if (s.setP v).flag .x then zeroUpper s.x else s.x) ∧
      (s.setP v).y = (if (s.setP v).flag .x then zeroUpper s.y else s.y) := ⟨rfl, rfl⟩

/-- A branch changes PC alone (43_control_transfer.md R268). -/
theorem branch_eq (cond : Bool) (r8 : Byte) (s : State) :
    branch cond r8 s =
      .next { s with pc := s.pc + 2#16 + (if cond then r8.signExtend 16 else 0#16) } := by
  cases cond with
  | true => rfl
  | false => simp [branch, State.advance]

/-- One byte of a block move (44_stack_status_system.md R327, R328): the registers and the one byte of
memory it changes. -/
theorem blockMove_eq (delta : Word16) (dst src : Byte) (s : State) :
    ∃ t, blockMove delta dst src s = .next t ∧
      t = { s with a := t.a, x := t.x, y := t.y, dbr := dst, mem := t.mem, pc := t.pc } ∧
      t.mem = s.mem.write
        ((dst.toNat * 65536 + (s.readY s.moveWidth).toNat) % Config.addrSpace)
        (s.readByte (src.toNat * 65536 + (s.readX s.moveWidth).toNat)) ∧
      t.x = (s.writeX s.moveWidth (s.readX s.moveWidth + delta.setWidth _)).x ∧
      t.y = (s.writeY s.moveWidth (s.readY s.moveWidth + delta.setWidth _)).y ∧
      t.a = (s.writeA .w16 (s.a.setWidth 16 - 1#16 : Word16)).a ∧
      t.pc = if (s.a.setWidth 16 - 1#16 : Word16) = 0xFFFF#16 then s.pc + 3#16 else s.pc := by
  unfold blockMove
  generalize s.moveWidth = k
  by_cases h : (s.a.setWidth 16 - 1#16 : Word16) = 0xFFFF#16
  · simp only [if_pos h]
    cases k <;> exact ⟨_, rfl, rfl, rfl, rfl, rfl, rfl, rfl⟩
  · simp only [if_neg h]
    cases k <;> exact ⟨_, rfl, rfl, rfl, rfl, rfl, rfl, rfl⟩

/-- Entering a mode (10_state.md R39): EMU8 forces M, X, the index registers and the high byte of S, and
no other mode does anything. -/
theorem enterMode_emu8 {s : State} (h : s.emu8 = true) :
    s.enterMode = { s with
      p := withFlag (withFlag s.p .m true) .x true
      x := zeroUpper s.x
      y := zeroUpper s.y
      sp := 0x01#8 ++ s.sp.setWidth 8 } := if_pos h

theorem enterMode_other {s : State} (h : s.emu8 = false) : s.enterMode = s := by
  simp [State.enterMode, h]

end Sys2Proof.Machine
end

