-- ==== Sys2Proof/Laws/Stack.lean ====
section
/-! SUPPORT. What pushes and pulls do: where S goes, which bytes are written and which are read. -/

namespace Sys2Proof.Machine

/-- A byte shown as the low byte of a stack address in page 1. -/
theorem setWidth_page1 (b : Byte) : ((0x01#8 ++ b : Word16)).setWidth 8 = b :=
  BitVec.setWidth_append_eq_right

theorem pushedS_zero (s : State) : pushedS s 0 = s.sp := if_pos rfl

theorem pulledS_zero (s : State) : pulledS s 0 = s.sp := if_pos rfl

theorem spDown_eq (s : State) : s.spDown = pushedS s 1 := by
  simp [State.spDown, pushedS]

theorem spUp_eq (s : State) : s.spUp = pulledS s 1 := by
  simp [State.spUp, pulledS]

theorem push8_sp (s : State) (v : Byte) : (s.push8 v).sp = pushedS s 1 := spDown_eq s

theorem popped_sp (s : State) : s.popped.sp = pulledS s 1 := spUp_eq s

/-- Pushes count on from a push (10_state.md R24, R25). -/
theorem pushedS_push8 (s : State) (v : Byte) (k : Nat) :
    pushedS (s.push8 v) k = pushedS s (k + 1) := by
  cases k with
  | zero => rw [pushedS_zero, push8_sp]
  | succ k =>
    simp only [pushedS, Nat.succ_ne_zero, if_false, emu8_push8, push8_sp]
    cases s.emu8 with
    | true =>
      simp only [if_true, setWidth_page1]
      congr 1
      refine BitVec.eq_of_toNat_eq ?_
      simp only [BitVec.toNat_sub, BitVec.toNat_ofNat]
      omega
    | false =>
      refine BitVec.eq_of_toNat_eq ?_
      simp only [Bool.false_eq_true, if_false, BitVec.toNat_sub, BitVec.toNat_ofNat]
      omega

/-- Pulls count on from a pull (R24, R25). -/
theorem pulledS_popped (s : State) (k : Nat) : pulledS s.popped k = pulledS s (k + 1) := by
  cases k with
  | zero => rw [pulledS_zero, popped_sp]
  | succ k =>
    simp only [pulledS, Nat.succ_ne_zero, if_false, emu8_popped, popped_sp]
    cases s.emu8 with
    | true =>
      simp only [if_true, setWidth_page1]
      congr 1
      refine BitVec.eq_of_toNat_eq ?_
      simp only [BitVec.toNat_add, BitVec.toNat_ofNat]
      omega
    | false =>
      refine BitVec.eq_of_toNat_eq ?_
      simp only [Bool.false_eq_true, if_false, BitVec.toNat_add, BitVec.toNat_ofNat]
      omega

theorem pushAddr_push8 (s : State) (v : Byte) (k : Nat) :
    pushAddr (s.push8 v) k = pushAddr s (k + 1) := by
  rw [pushAddr, pushedS_push8, pushAddr]

theorem pullAddr_popped (s : State) (k : Nat) : pullAddr s.popped k = pullAddr s (k + 1) := by
  rw [pullAddr, pulledS_popped, pullAddr]

theorem pushAddr_lt (s : State) (k : Nat) : pushAddr s k < Config.addrSpace :=
  lt_of_lt_of_le (BitVec.isLt _) (by decide)

theorem pullAddr_lt (s : State) (k : Nat) : pullAddr s k < Config.addrSpace :=
  lt_of_lt_of_le (BitVec.isLt _) (by decide)

/-- Fewer than 256 pushes do not come back to the first address. -/
theorem pushAddr_ne_first (s : State) {k : Nat} (h0 : 0 < k) (h : k < 256) :
    pushAddr s k ≠ pushAddr s 0 := by
  intro e
  simp only [pushAddr, pushedS, Nat.ne_of_gt h0, if_false, if_true] at e
  cases hm : s.emu8 with
  | true =>
    rw [hm] at e
    simp only [if_true, toNat_append_eq, BitVec.toNat_sub, BitVec.toNat_setWidth,
      BitVec.toNat_ofNat] at e
    omega
  | false =>
    rw [hm] at e
    simp only [Bool.false_eq_true, if_false, BitVec.toNat_sub, BitVec.toNat_ofNat] at e
    have := s.sp.isLt
    omega

/-- Pushes of a list of bytes, the first one first. -/
def State.pushBytes (s : State) : List Byte → State
  | [] => s
  | b :: bs => (s.push8 b).pushBytes bs

/-- One push: the byte lands at S and nothing else is written. -/
theorem readByte_push8 (s : State) (v : Byte) (a : Nat) :
    (s.push8 v).readByte a = if a % Config.addrSpace = pushAddr s 0 then v else s.readByte a := by
  have h : s.sp.toNat % Config.addrSpace = pushAddr s 0 := by
    rw [pushAddr, pushedS_zero]
    exact Nat.mod_eq_of_lt (lt_of_lt_of_le s.sp.isLt (by decide))
  rw [← h, ← readByte_writeByte]
  rfl

/-- What pushes do. -/
theorem pushed_pushBytes (s : State) (bytes : List Byte) (h : bytes.length < 256) :
    Pushed s (s.pushBytes bytes) bytes := by
  induction bytes generalizing s with
  | nil =>
    exact ⟨(pushedS_zero s).symm, fun k hk => absurd hk (Nat.not_lt_zero k), fun a _ => rfl⟩
  | cons b bs ih =>
    simp only [List.length_cons] at h
    obtain ⟨h1, h2, h3⟩ := ih (s.push8 b) (by omega)
    refine ⟨?_, ?_, ?_⟩
    · rw [State.pushBytes, h1, pushedS_push8, List.length_cons]
    · intro k hk
      cases k with
      | zero =>
        have hm : pushAddr s 0 % Config.addrSpace = pushAddr s 0 :=
          Nat.mod_eq_of_lt (pushAddr_lt s 0)
        rw [State.pushBytes, h3 _ fun k hk' => ?_, readByte_push8, if_pos hm]
        · rfl
        · rw [hm, pushAddr_push8]
          exact (pushAddr_ne_first s (Nat.succ_pos k) (by omega)).symm
      | succ k =>
        rw [State.pushBytes, ← pushAddr_push8 s b, h2 k (by simpa using hk)]
        rfl
    · intro a ha
      rw [State.pushBytes, h3 a fun k hk => ?_, readByte_push8,
        if_neg (ha 0 (by simp))]
      rw [pushAddr_push8]
      exact ha (k + 1) (by simpa using hk)

theorem highFirst_succ (v n : Nat) :
    highFirst v (n + 1) = BitVec.ofNat 8 (v / 256 ^ n) :: highFirst v n := by
  simp only [highFirst, List.range_succ_eq_map, List.map_cons, List.map_map]
  congr 1
  refine List.map_congr_left fun k _ => ?_
  show BitVec.ofNat 8 (v / 256 ^ (n + 1 - 1 - (k + 1))) = BitVec.ofNat 8 (v / 256 ^ (n - 1 - k))
  rw [show n + 1 - 1 - (k + 1) = n - 1 - k by omega]

/-- `pushN` pushes its bytes, the most significant first (44_stack_status_system.md R290). -/
theorem pushN_eq_pushBytes (s : State) (v n : Nat) :
    s.pushN v n = s.pushBytes (highFirst v n) := by
  induction n generalizing s with
  | zero => rfl
  | succ n ih => rw [highFirst_succ, State.pushN, ih, State.pushBytes]

@[simp] theorem length_highFirst (v n : Nat) : (highFirst v n).length = n := by
  simp [highFirst]

/-- What `pushN` does. -/
theorem pushed_pushN (s : State) (v n : Nat) (h : n < 256) :
    Pushed s (s.pushN v n) (highFirst v n) := by
  rw [pushN_eq_pushBytes]
  exact pushed_pushBytes s _ (by simpa using h)

/-- The byte a pull returns. -/
theorem top_eq (s : State) : s.top = s.readByte (pullAddr s 0) := by
  rw [State.top, spUp_eq]
  rfl

/-- S after pulls. -/
theorem pullN_sp (s : State) (n : Nat) : (s.pullN n).sp = pulledS s n := by
  induction n generalizing s with
  | zero => exact (pulledS_zero s).symm
  | succ n ih => rw [State.pullN, ih, pulledS_popped]

/-- A little-endian number from its first byte on. -/
theorem littleEndian_succ (f : Nat → Byte) (n : Nat) :
    littleEndian f (n + 1) = (f 0).toNat + 256 * littleEndian (fun k => f (k + 1)) n := by
  induction n with
  | zero => simp [littleEndian]
  | succ n ih =>
    rw [littleEndian, ih, littleEndian, Nat.pow_succ]
    ring

/-- The value pulls return: the first byte is the least significant (R290). -/
theorem pullValue_eq (s : State) (n : Nat) : s.pullValue n = bytesAt s (pullAddr s) n := by
  induction n generalizing s with
  | zero => rfl
  | succ n ih =>
    rw [State.pullValue, ih, top_eq]
    simp only [bytesAt, littleEndian_succ, pullAddr_popped, readByte_popped]

/-- A read of memory is the little-endian number of its bytes. -/
theorem readLE_eq (s : State) (l : Loc) (n : Nat) : s.readLE l n = bytesAt s l.addr n := by
  induction n with
  | zero => rfl
  | succ n ih =>
    rw [State.readLE, ih]
    rfl

/-- The test of R307 for pushes: some push happens at `S[7:0] = 0x00`. -/
theorem pushWraps_iff (s : State) (n : Nat) (hn : n < 256) :
    s.pushWraps n = true ↔
      s.emu8 = true ∧ ∃ k, k < n ∧ (pushedS s k).setWidth 8 = 0x00#8 := by
  rw [State.pushWraps, Bool.and_eq_true, decide_eq_true_eq]
  refine and_congr_right fun h => ?_
  have low (k : Nat) : ((pushedS s k).setWidth 8).toNat = (s.sp.toNat % 256 + (256 - k % 256)) % 256 := by
    rw [pushedS]
    split
    · rename_i hk
      subst hk
      rw [BitVec.toNat_setWidth]
      omega
    · rw [setWidth_page1]
      simp only [BitVec.toNat_sub, BitVec.toNat_setWidth, BitVec.toNat_ofNat]
      omega
  simp only [BitVec.toNat_eq, low, BitVec.toNat_setWidth, BitVec.toNat_ofNat]
  constructor
  · intro hlt
    exact ⟨s.sp.toNat % 256, by omega, by omega⟩
  · rintro ⟨k, hk, e⟩
    omega

/-- The test of R307 for pulls: some pull happens at `S[7:0] = 0xFF`. -/
theorem pullWraps_iff (s : State) (n : Nat) (hn : n < 256) :
    s.pullWraps n = true ↔
      s.emu8 = true ∧ ∃ k, k < n ∧ (pulledS s k).setWidth 8 = 0xFF#8 := by
  rw [State.pullWraps, Bool.and_eq_true, decide_eq_true_eq]
  refine and_congr_right fun h => ?_
  have low (k : Nat) : ((pulledS s k).setWidth 8).toNat = (s.sp.toNat + k) % 256 := by
    rw [pulledS]
    split
    · rename_i hk
      subst hk
      rw [BitVec.toNat_setWidth]
      omega
    · rw [setWidth_page1]
      simp only [BitVec.toNat_add, BitVec.toNat_setWidth, BitVec.toNat_ofNat]
      omega
  simp only [BitVec.toNat_eq, low, BitVec.toNat_setWidth, BitVec.toNat_ofNat]
  constructor
  · intro hlt
    exact ⟨255 - s.sp.toNat % 256, by omega, by omega⟩
  · rintro ⟨k, hk, e⟩
    omega

end Sys2Proof.Machine
end

