-- ==== Sys2Proof/Laws/Interrupts.lean ====
section
/-! SUPPORT. The frames of the interrupt sequence and of RTI, byte by byte, and the mode that picks them. -/

namespace Sys2Proof.Machine

/-- The mode is EMU8 exactly when the predicate says so (10_state.md R38). -/
theorem mode_eq_emu8 (s : State) : s.mode = .emu8 ↔ s.emu8 = true := by
  cases h1 : s.e16 <;> cases h2 : s.e8 <;> simp [State.mode, State.emu8, h1, h2]

/-- In EMU8 the frame is three bytes (60_exceptions.md R351). -/
theorem frame_emu8 {s : State} (h : s.emu8 = true) :
    Config.frame s.mode = [.pcHigh, .pcLow, .status] := by
  rw [(mode_eq_emu8 s).2 h]
  rfl

/-- Outside EMU8 the frame is four bytes (R352, R353 with `NATIVE_FRAME` at its default). -/
theorem frame_other {s : State} (h : s.emu8 = false) :
    Config.frame s.mode = [.bank, .pcHigh, .pcLow, .status] := by
  have hm : s.mode ≠ .emu8 := fun e => by simp [(mode_eq_emu8 s).1 e] at h
  cases hs : s.mode with
  | emu8 => exact absurd hs hm
  | emu16 => rfl
  | native => rfl

/-- The byte an item of a frame stands for. -/
def FrameItem.byte (pbr : Byte) (ret : Word16) (status : Byte) : FrameItem → Byte
  | .bank => pbr
  | .pcHigh => byteOf ret 1
  | .pcLow => byteOf ret 0
  | .status => status

/-- Pushing a frame is pushing its bytes (R350). -/
theorem pushFrame_eq_pushBytes (s : State) (ret : Word16) (status : Byte) (fs : List FrameItem) :
    s.pushFrame ret status fs = s.pushBytes (fs.map (FrameItem.byte s.pbr ret status)) := by
  induction fs generalizing s with
  | nil => rfl
  | cons f fs ih =>
    rw [State.pushFrame, ih, List.map_cons, State.pushBytes]
    cases f <;> rfl

/-- The registers an interrupt sequence writes besides S and memory (R350). -/
theorem takeInterrupt_registers (s : State) (k : Interrupt) (ret : Word16) :
    (s.takeInterrupt k ret).p = withFlag (withFlag s.p .i true) .d false ∧
      (s.takeInterrupt k ret).pbr = 0x00#8 ∧
      (s.takeInterrupt k ret).pc =
        (s.takeInterrupt k ret).ptr16 (.bank0 (Config.vector k s.mode)) ∧
      (s.takeInterrupt k ret).waiting = false := by
  refine ⟨?_, rfl, rfl, rfl⟩
  simp [State.takeInterrupt]

/-- What an interrupt sequence pushes (R350). -/
theorem pushed_takeInterrupt (s : State) (k : Interrupt) (ret : Word16) :
    Pushed s (s.takeInterrupt k ret)
      ((Config.frame s.mode).map (FrameItem.byte s.pbr ret (s.framedStatus k))) := by
  have hl : ((Config.frame s.mode).map
      (FrameItem.byte s.pbr ret (s.framedStatus k))).length < 256 := by
    rw [List.length_map]
    cases s.mode <;> decide
  have h := pushed_pushBytes s _ hl
  rw [← pushFrame_eq_pushBytes] at h
  exact h

/-- A pulled item moves S by one pull. -/
@[simp] theorem pulledS_pullItem (s : State) (f : FrameItem) (k : Nat) :
    pulledS (s.pullItem f) k = pulledS s (k + 1) := by
  rw [← pulledS_popped]
  cases f <;> rfl

@[simp] theorem pullAddr_pullItem (s : State) (f : FrameItem) (k : Nat) :
    pullAddr (s.pullItem f) k = pullAddr s (k + 1) := by
  rw [pullAddr, pulledS_pullItem, pullAddr]

@[simp] theorem readByte_pullItem (s : State) (f : FrameItem) (i : Nat) :
    (s.pullItem f).readByte i = s.readByte i := by
  cases f <;> rfl

/-- PC once both of its bytes have been pulled, low byte first. -/
theorem pc_of_bytes (hi lo : Byte) (pc : Word16) :
    (hi ++ (pc.extractLsb' 8 8 ++ lo : Word16).setWidth 8 : Word16) = hi ++ lo := by
  congr 1
  exact BitVec.setWidth_append_eq_right

end Sys2Proof.Machine
end

