-- ==== Sys2Proof/Laws/Canonical.lean ====
section
/-! SUPPORT. Every operation that writes memory keeps its canonical form, and the state after reset has
it (the byte and width writes are in Laws/Memory.lean). -/

namespace Sys2Proof.Machine

/-- Memory after reset is in canonical form. -/
theorem wf_reset : State.reset.mem.wf := Memory.wf_nil

theorem wf_push8 {s : State} (h : s.mem.wf) (v : Byte) : (s.push8 v).mem.wf := wf_writeByte h _ v

theorem wf_pushBytes {s : State} (h : s.mem.wf) (bytes : List Byte) : (s.pushBytes bytes).mem.wf := by
  induction bytes generalizing s with
  | nil => exact h
  | cons b bs ih => exact ih (wf_push8 h b)

theorem wf_pushN {s : State} (h : s.mem.wf) (v n : Nat) : (s.pushN v n).mem.wf := by
  induction n generalizing s with
  | zero => exact h
  | succ n ih => exact ih (wf_push8 h _)

theorem wf_pushFrame {s : State} (h : s.mem.wf) (ret : Word16) (status : Byte)
    (fs : List FrameItem) : (s.pushFrame ret status fs).mem.wf := by
  rw [pushFrame_eq_pushBytes]
  exact wf_pushBytes h _

theorem wf_takeInterrupt {s : State} (h : s.mem.wf) (k : Interrupt) (ret : Word16) :
    (s.takeInterrupt k ret).mem.wf := wf_pushFrame h ret _ _

theorem wf_resetSequence {s : State} (h : s.mem.wf) : s.resetSequence.mem.wf := h

theorem wf_writeTarget {s : State} (h : s.mem.wf) (t : Target) (w : Width) (v : BitVec w.bits) :
    (s.writeTarget t w v).mem.wf := by
  cases t with
  | acc => cases w <;> exact h
  | mem m => exact wf_writeWidth h _ w v

theorem wf_placeBytes {s : State} (h : s.mem.wf) (k : Nat) (bytes : List Byte) :
    (s.placeBytes k bytes).mem.wf := by
  induction bytes generalizing s k with
  | nil => exact h
  | cons b bs ih => exact ih (wf_writeByte h _ b) (k + 1)

/-- Placing an instruction for the next fetch keeps the canonical form. -/
theorem wf_withFetchWord {s : State} (h : s.mem.wf) (nbits w : Nat) :
    (s.withFetchWord nbits w).mem.wf := wf_placeBytes h 0 _

end Sys2Proof.Machine
end

