-- ==== Sys2Proof/Laws/Code.lean ====
section
/-! SUPPORT. The bytes of an operand, written and read back. -/

namespace Sys2Proof

open Sys2Proof.Machine

@[simp] theorem length_lowBytes {k : Nat} (v : BitVec k) (n : Nat) : (lowBytes v n).length = n := by
  simp [lowBytes]

/-- An operand's encoding has the length R101 and R102 give it. -/
theorem length_encode (w : Widths) (o : Operand) : (o.encode w).length = o.size w := by
  cases o with
  | addr m => cases m <;> simp [Operand.encode, AddrMode.encode, Operand.size, AddrMode.size]
  | _ => simp [Operand.encode, Operand.size]

theorem a16_ofRest (a : Word16) (rest : List Byte) :
    (OperandBytes.ofRest (lowBytes a 2 ++ rest)).a16 = a := by
  refine BitVec.eq_of_toNat_eq ?_
  simp [OperandBytes.ofRest, lowBytes, List.range_succ, OperandBytes.a16, toNat_append16,
    BitVec.extractLsb'_toNat, Nat.shiftRight_eq_div_pow]
  omega

theorem a24_ofRest (a : Long24) (rest : List Byte) :
    (OperandBytes.ofRest (lowBytes a 3 ++ rest)).a24 = a := by
  refine BitVec.eq_of_toNat_eq ?_
  simp [OperandBytes.ofRest, lowBytes, List.range_succ, OperandBytes.a16, OperandBytes.a24,
    toNat_append16, toNat_append24, BitVec.extractLsb'_toNat, Nat.shiftRight_eq_div_pow]
  omega

/-- An immediate that fits its width is read back from its bytes (30_encoding.md R102). -/
theorem imm_ofRest (v : Word32) (w : Width) (rest : List Byte) (h : v.toNat < 2 ^ w.bits) :
    (OperandBytes.ofRest (lowBytes v w.bytes ++ rest)).imm w = v := by
  refine BitVec.eq_of_toNat_eq ?_
  cases w <;>
    simp [OperandBytes.ofRest, lowBytes, List.range_succ, OperandBytes.a16, OperandBytes.a24,
      OperandBytes.imm, Width.bytes, toNat_append16, toNat_append24, toNat_append32,
      BitVec.extractLsb'_toNat, Nat.shiftRight_eq_div_pow] <;>
    simp only [Width.bits] at h <;> omega

/-- A cell of the matrix that takes `a16` reads it back. -/
theorem matrix_a16 {w : Widths} {op : Byte} {i : Word16 → Instr}
    (h : ∀ o, decodeMatrix w o op = i o.a16) (a : Word16) (rest : List Byte) :
    decodeMatrix w (.ofRest (lowBytes a 2 ++ rest)) op = i a := by rw [h, a16_ofRest]

/-- A cell of the matrix that takes `al24` reads it back. -/
theorem matrix_a24 {w : Widths} {op : Byte} {i : Long24 → Instr}
    (h : ∀ o, decodeMatrix w o op = i o.a24) (a : Long24) (rest : List Byte) :
    decodeMatrix w (.ofRest (lowBytes a 3 ++ rest)) op = i a := by rw [h, a24_ofRest]

/-- A cell of the matrix that takes an immediate reads it back. -/
theorem matrix_imm {w : Widths} {op : Byte} {i : Word32 → Instr} {k : Width}
    (h : ∀ o, decodeMatrix w o op = i (o.imm k)) (v : Word32) (rest : List Byte)
    (hv : v.toNat < 2 ^ k.bits) :
    decodeMatrix w (.ofRest (lowBytes v k.bytes ++ rest)) op = i v := by rw [h, imm_ofRest v k rest hv]

/-- A cell of the matrix that takes one byte reads it back. -/
theorem matrix_byte {w : Widths} {op : Byte} {i : Byte → Instr}
    (h : ∀ o, decodeMatrix w o op = i o.b1) (b : Byte) (rest : List Byte) :
    decodeMatrix w (.ofRest ([b] ++ rest)) op = i b := by rw [h]; rfl

/-- A cell of the matrix that takes two bank bytes reads them back. -/
theorem matrix_banks {w : Widths} {op : Byte} {i : Byte → Byte → Instr}
    (h : ∀ o, decodeMatrix w o op = i o.b1 o.b2) (b c : Byte) (rest : List Byte) :
    decodeMatrix w (.ofRest ([b, c] ++ rest)) op = i b c := by rw [h]; rfl

/-- The bytes of an `a16` read from a list are the list's first two. -/
theorem lowBytes_a16 (r : List Byte) (h : 2 ≤ r.length) :
    lowBytes (OperandBytes.ofRest r).a16 2 = r.take 2 := by
  rcases r with _ | ⟨a, _ | ⟨b, r⟩⟩
  · simp at h
  · simp at h
  · simp [lowBytes, List.range_succ, OperandBytes.ofRest, OperandBytes.a16]
    constructor <;> refine BitVec.eq_of_toNat_eq ?_ <;>
      simp [BitVec.extractLsb'_toNat, toNat_append16, Nat.shiftRight_eq_div_pow] <;> omega

/-- The bytes of an `al24` read from a list are the list's first three. -/
theorem lowBytes_a24 (r : List Byte) (h : 3 ≤ r.length) :
    lowBytes (OperandBytes.ofRest r).a24 3 = r.take 3 := by
  rcases r with _ | ⟨a, _ | ⟨b, _ | ⟨c, r⟩⟩⟩
  · simp at h
  · simp at h
  · simp at h
  · simp [lowBytes, List.range_succ, OperandBytes.ofRest, OperandBytes.a16, OperandBytes.a24]
    refine ⟨?_, ?_, ?_⟩ <;> refine BitVec.eq_of_toNat_eq ?_ <;>
      simp [BitVec.extractLsb'_toNat, toNat_append16, toNat_append24, Nat.shiftRight_eq_div_pow] <;>
      omega

/-- The bytes of an immediate read from a list are the list's first ones, and it fits its width. -/
theorem lowBytes_imm (r : List Byte) (w : Width) (h : w.bytes ≤ r.length) :
    lowBytes ((OperandBytes.ofRest r).imm w) w.bytes = r.take w.bytes ∧
      ((OperandBytes.ofRest r).imm w).toNat < 2 ^ w.bits := by
  cases w with
  | w8 =>
    rcases r with _ | ⟨a, r⟩
    · simp [Width.bytes] at h
    · refine ⟨?_, ?_⟩
      · simp [lowBytes, List.range_succ, OperandBytes.ofRest, OperandBytes.imm, Width.bytes]
        refine BitVec.eq_of_toNat_eq ?_
        simp [BitVec.extractLsb'_toNat]
        omega
      · simp [OperandBytes.ofRest, OperandBytes.imm, Width.bits]
        omega
  | w16 =>
    refine ⟨?_, ?_⟩
    · refine Eq.trans ?_ (lowBytes_a16 r h)
      simp only [lowBytes, List.range_succ, List.range_zero, Width.bytes, OperandBytes.imm]
      simp
      constructor <;> refine BitVec.eq_of_toNat_eq ?_ <;>
        simp [BitVec.extractLsb'_toNat, Nat.shiftRight_eq_div_pow]
      omega
    · simp only [OperandBytes.imm, BitVec.toNat_setWidth, Width.bits]
      have := (OperandBytes.ofRest r).a16.isLt
      omega
  | w32 =>
    refine ⟨?_, BitVec.isLt _⟩
    rcases r with _ | ⟨a, _ | ⟨b, _ | ⟨c, _ | ⟨d, r⟩⟩⟩⟩
    · simp [Width.bytes] at h
    · simp [Width.bytes] at h
    · simp [Width.bytes] at h
    · simp [Width.bytes] at h
    · simp [lowBytes, List.range_succ, OperandBytes.ofRest, OperandBytes.imm, Width.bytes,
        OperandBytes.a16, OperandBytes.a24]
      refine ⟨?_, ?_, ?_, ?_⟩ <;> refine BitVec.eq_of_toNat_eq ?_ <;>
        simp [BitVec.extractLsb'_toNat, toNat_append16, toNat_append24, toNat_append32,
          Nat.shiftRight_eq_div_pow] <;> omega

end Sys2Proof
end

