-- ==== Sys2Proof/Laws/Dispatch.lean ====
section
/-! SUPPORT. Which meaning runs an instruction of a mnemonic with several forms: its source or target is the
one its operand names, and its length counts that operand's bytes. -/

namespace Sys2Proof.Machine

theorem exec_lda (i : Instr) (h : i.mnemonic = .lda) :
    ∃ src, sourceOf i.operand = some src ∧ (∀ s, exec i s = loadA src s) ∧
      ∀ ws : Widths, i.length ws = 1 + src.size ws.mw := by
  cases i <;> first | contradiction | exact ⟨_, rfl, fun _ => rfl, fun _ => rfl⟩

theorem exec_ldx (i : Instr) (h : i.mnemonic = .ldx) :
    ∃ src, sourceOf i.operand = some src ∧ (∀ s, exec i s = loadX src s) ∧
      ∀ ws : Widths, i.length ws = 1 + src.size ws.xw := by
  cases i <;> first | contradiction | exact ⟨_, rfl, fun _ => rfl, fun _ => rfl⟩

theorem exec_ldy (i : Instr) (h : i.mnemonic = .ldy) :
    ∃ src, sourceOf i.operand = some src ∧ (∀ s, exec i s = loadY src s) ∧
      ∀ ws : Widths, i.length ws = 1 + src.size ws.xw := by
  cases i <;> first | contradiction | exact ⟨_, rfl, fun _ => rfl, fun _ => rfl⟩

theorem exec_adc (i : Instr) (h : i.mnemonic = .adc) :
    ∃ src, sourceOf i.operand = some src ∧ (∀ s, exec i s = addA src s) ∧
      ∀ ws : Widths, i.length ws = 1 + src.size ws.mw := by
  cases i <;> first | contradiction | exact ⟨_, rfl, fun _ => rfl, fun _ => rfl⟩

theorem exec_sbc (i : Instr) (h : i.mnemonic = .sbc) :
    ∃ src, sourceOf i.operand = some src ∧ (∀ s, exec i s = subA src s) ∧
      ∀ ws : Widths, i.length ws = 1 + src.size ws.mw := by
  cases i <;> first | contradiction | exact ⟨_, rfl, fun _ => rfl, fun _ => rfl⟩

theorem exec_cmp (i : Instr) (h : i.mnemonic = .cmp) :
    ∃ src, sourceOf i.operand = some src ∧ (∀ s, exec i s = compareA src s) ∧
      ∀ ws : Widths, i.length ws = 1 + src.size ws.mw := by
  cases i <;> first | contradiction | exact ⟨_, rfl, fun _ => rfl, fun _ => rfl⟩

theorem exec_cpx (i : Instr) (h : i.mnemonic = .cpx) :
    ∃ src, sourceOf i.operand = some src ∧ (∀ s, exec i s = compareX src s) ∧
      ∀ ws : Widths, i.length ws = 1 + src.size ws.xw := by
  cases i <;> first | contradiction | exact ⟨_, rfl, fun _ => rfl, fun _ => rfl⟩

theorem exec_cpy (i : Instr) (h : i.mnemonic = .cpy) :
    ∃ src, sourceOf i.operand = some src ∧ (∀ s, exec i s = compareY src s) ∧
      ∀ ws : Widths, i.length ws = 1 + src.size ws.xw := by
  cases i <;> first | contradiction | exact ⟨_, rfl, fun _ => rfl, fun _ => rfl⟩

theorem exec_and (i : Instr) (h : i.mnemonic = .and) :
    ∃ src, sourceOf i.operand = some src ∧ (∀ s, exec i s = andA src s) ∧
      ∀ ws : Widths, i.length ws = 1 + src.size ws.mw := by
  cases i <;> first | contradiction | exact ⟨_, rfl, fun _ => rfl, fun _ => rfl⟩

theorem exec_ora (i : Instr) (h : i.mnemonic = .ora) :
    ∃ src, sourceOf i.operand = some src ∧ (∀ s, exec i s = orA src s) ∧
      ∀ ws : Widths, i.length ws = 1 + src.size ws.mw := by
  cases i <;> first | contradiction | exact ⟨_, rfl, fun _ => rfl, fun _ => rfl⟩

theorem exec_eor (i : Instr) (h : i.mnemonic = .eor) :
    ∃ src, sourceOf i.operand = some src ∧ (∀ s, exec i s = xorA src s) ∧
      ∀ ws : Widths, i.length ws = 1 + src.size ws.mw := by
  cases i <;> first | contradiction | exact ⟨_, rfl, fun _ => rfl, fun _ => rfl⟩

theorem exec_inc (i : Instr) (h : i.mnemonic = .inc) :
    ∃ tgt, targetOf i.operand = some tgt ∧ (∀ s, exec i s = increment tgt s) ∧
      ∀ ws : Widths, i.length ws = 1 + tgt.size := by
  cases i <;> first | contradiction | exact ⟨_, rfl, fun _ => rfl, fun _ => rfl⟩

theorem exec_dec (i : Instr) (h : i.mnemonic = .dec) :
    ∃ tgt, targetOf i.operand = some tgt ∧ (∀ s, exec i s = decrement tgt s) ∧
      ∀ ws : Widths, i.length ws = 1 + tgt.size := by
  cases i <;> first | contradiction | exact ⟨_, rfl, fun _ => rfl, fun _ => rfl⟩

theorem exec_asl (i : Instr) (h : i.mnemonic = .asl) :
    ∃ tgt, targetOf i.operand = some tgt ∧ (∀ s, exec i s = aslTarget tgt s) ∧
      ∀ ws : Widths, i.length ws = 1 + tgt.size := by
  cases i <;> first | contradiction | exact ⟨_, rfl, fun _ => rfl, fun _ => rfl⟩

theorem exec_lsr (i : Instr) (h : i.mnemonic = .lsr) :
    ∃ tgt, targetOf i.operand = some tgt ∧ (∀ s, exec i s = lsrTarget tgt s) ∧
      ∀ ws : Widths, i.length ws = 1 + tgt.size := by
  cases i <;> first | contradiction | exact ⟨_, rfl, fun _ => rfl, fun _ => rfl⟩

theorem exec_rol (i : Instr) (h : i.mnemonic = .rol) :
    ∃ tgt, targetOf i.operand = some tgt ∧ (∀ s, exec i s = rolTarget tgt s) ∧
      ∀ ws : Widths, i.length ws = 1 + tgt.size := by
  cases i <;> first | contradiction | exact ⟨_, rfl, fun _ => rfl, fun _ => rfl⟩

theorem exec_ror (i : Instr) (h : i.mnemonic = .ror) :
    ∃ tgt, targetOf i.operand = some tgt ∧ (∀ s, exec i s = rorTarget tgt s) ∧
      ∀ ws : Widths, i.length ws = 1 + tgt.size := by
  cases i <;> first | contradiction | exact ⟨_, rfl, fun _ => rfl, fun _ => rfl⟩

theorem exec_sta (i : Instr) (h : i.mnemonic = .sta) :
    ∃ mode, i.operand = .addr mode ∧ (∀ s, exec i s = storeA mode s) ∧
      ∀ ws : Widths, i.length ws = 1 + mode.size := by
  cases i <;> first | contradiction | exact ⟨_, rfl, fun _ => rfl, fun _ => rfl⟩

theorem exec_stx (i : Instr) (h : i.mnemonic = .stx) :
    ∃ mode, i.operand = .addr mode ∧ (∀ s, exec i s = storeX mode s) ∧
      ∀ ws : Widths, i.length ws = 1 + mode.size := by
  cases i <;> first | contradiction | exact ⟨_, rfl, fun _ => rfl, fun _ => rfl⟩

theorem exec_sty (i : Instr) (h : i.mnemonic = .sty) :
    ∃ mode, i.operand = .addr mode ∧ (∀ s, exec i s = storeY mode s) ∧
      ∀ ws : Widths, i.length ws = 1 + mode.size := by
  cases i <;> first | contradiction | exact ⟨_, rfl, fun _ => rfl, fun _ => rfl⟩

theorem exec_stz (i : Instr) (h : i.mnemonic = .stz) :
    ∃ mode, i.operand = .addr mode ∧ (∀ s, exec i s = storeZero mode s) ∧
      ∀ ws : Widths, i.length ws = 1 + mode.size := by
  cases i <;> first | contradiction | exact ⟨_, rfl, fun _ => rfl, fun _ => rfl⟩

theorem exec_tsb (i : Instr) (h : i.mnemonic = .tsb) :
    ∃ mode, i.operand = .addr mode ∧ (∀ s, exec i s = testAndSet mode s) ∧
      ∀ ws : Widths, i.length ws = 1 + mode.size := by
  cases i <;> first | contradiction | exact ⟨_, rfl, fun _ => rfl, fun _ => rfl⟩

theorem exec_trb (i : Instr) (h : i.mnemonic = .trb) :
    ∃ mode, i.operand = .addr mode ∧ (∀ s, exec i s = testAndReset mode s) ∧
      ∀ ws : Widths, i.length ws = 1 + mode.size := by
  cases i <;> first | contradiction | exact ⟨_, rfl, fun _ => rfl, fun _ => rfl⟩

/-- BIT is its immediate form or a memory form (42_arith_logic.md R220). -/
theorem exec_bit (i : Instr) (h : i.mnemonic = .bit) :
    (∃ v, i = .bitImm v) ∨ ∃ mode, i.operand = .addr mode ∧ (∀ s, exec i s = bitMemory mode s) ∧
      ∀ ws : Widths, i.length ws = 1 + mode.size := by
  cases i <;>
    first
    | contradiction
    | exact .inl ⟨_, rfl⟩
    | exact .inr ⟨_, rfl, fun _ => rfl, fun _ => rfl⟩

end Sys2Proof.Machine
end

