-- ==== Sys2Proof/Laws/PerInstr.lean ====
section
/-! SUPPORT. For each constructor of `Instr`: its cell of the opcode matrix reads its operand back from the
operand's bytes (30_encoding.md R103, R104). -/

namespace Sys2Proof.Laws.OperandReadBack

/-- The cell of the matrix at the instruction's opcode gives the instruction, from the bytes of its
operand and whatever follows them. XFE has no cell of its own (R106). -/
def Statement (i : Instr) : Prop :=
  ∀ (w : Widths) (rest : List Byte), i ≠ .xfe → i.operand.fits w = true →
    decodeMatrix w (.ofRest (i.operand.encode w ++ rest)) i.opcode = i

theorem brk (sig : Byte) : Statement (.brk sig) := fun _ rest _ _ =>
  matrix_byte (op := 0x00#8) (i := .brk) (fun _ => rfl) sig rest

theorem oraIndX (d8 : Byte) : Statement (.oraIndX d8) := fun _ rest _ _ =>
  matrix_byte (op := 0x01#8) (i := .oraIndX) (fun _ => rfl) d8 rest

theorem cop (sig : Byte) : Statement (.cop sig) := fun _ rest _ _ =>
  matrix_byte (op := 0x02#8) (i := .cop) (fun _ => rfl) sig rest

theorem oraSr (d8 : Byte) : Statement (.oraSr d8) := fun _ rest _ _ =>
  matrix_byte (op := 0x03#8) (i := .oraSr) (fun _ => rfl) d8 rest

theorem tsbDir (d8 : Byte) : Statement (.tsbDir d8) := fun _ rest _ _ =>
  matrix_byte (op := 0x04#8) (i := .tsbDir) (fun _ => rfl) d8 rest

theorem oraDir (d8 : Byte) : Statement (.oraDir d8) := fun _ rest _ _ =>
  matrix_byte (op := 0x05#8) (i := .oraDir) (fun _ => rfl) d8 rest

theorem aslDir (d8 : Byte) : Statement (.aslDir d8) := fun _ rest _ _ =>
  matrix_byte (op := 0x06#8) (i := .aslDir) (fun _ => rfl) d8 rest

theorem oraIndLong (d8 : Byte) : Statement (.oraIndLong d8) := fun _ rest _ _ =>
  matrix_byte (op := 0x07#8) (i := .oraIndLong) (fun _ => rfl) d8 rest

theorem oraImm (v : Word32) : Statement (.oraImm v) := fun _ rest _ hf =>
  matrix_imm (op := 0x09#8) (i := .oraImm) (fun _ => rfl) v rest (of_decide_eq_true hf)

theorem tsbAbs (a16 : Word16) : Statement (.tsbAbs a16) := fun _ rest _ _ =>
  matrix_a16 (op := 0x0C#8) (i := .tsbAbs) (fun _ => rfl) a16 rest

theorem oraAbs (a16 : Word16) : Statement (.oraAbs a16) := fun _ rest _ _ =>
  matrix_a16 (op := 0x0D#8) (i := .oraAbs) (fun _ => rfl) a16 rest

theorem aslAbs (a16 : Word16) : Statement (.aslAbs a16) := fun _ rest _ _ =>
  matrix_a16 (op := 0x0E#8) (i := .aslAbs) (fun _ => rfl) a16 rest

theorem oraLong (a24 : Long24) : Statement (.oraLong a24) := fun _ rest _ _ =>
  matrix_a24 (op := 0x0F#8) (i := .oraLong) (fun _ => rfl) a24 rest

theorem bpl (r8 : Byte) : Statement (.bpl r8) := fun _ rest _ _ =>
  matrix_byte (op := 0x10#8) (i := .bpl) (fun _ => rfl) r8 rest

theorem oraIndY (d8 : Byte) : Statement (.oraIndY d8) := fun _ rest _ _ =>
  matrix_byte (op := 0x11#8) (i := .oraIndY) (fun _ => rfl) d8 rest

theorem oraInd (d8 : Byte) : Statement (.oraInd d8) := fun _ rest _ _ =>
  matrix_byte (op := 0x12#8) (i := .oraInd) (fun _ => rfl) d8 rest

theorem oraSrIndY (d8 : Byte) : Statement (.oraSrIndY d8) := fun _ rest _ _ =>
  matrix_byte (op := 0x13#8) (i := .oraSrIndY) (fun _ => rfl) d8 rest

theorem trbDir (d8 : Byte) : Statement (.trbDir d8) := fun _ rest _ _ =>
  matrix_byte (op := 0x14#8) (i := .trbDir) (fun _ => rfl) d8 rest

theorem oraDirX (d8 : Byte) : Statement (.oraDirX d8) := fun _ rest _ _ =>
  matrix_byte (op := 0x15#8) (i := .oraDirX) (fun _ => rfl) d8 rest

theorem aslDirX (d8 : Byte) : Statement (.aslDirX d8) := fun _ rest _ _ =>
  matrix_byte (op := 0x16#8) (i := .aslDirX) (fun _ => rfl) d8 rest

theorem oraIndLongY (d8 : Byte) : Statement (.oraIndLongY d8) := fun _ rest _ _ =>
  matrix_byte (op := 0x17#8) (i := .oraIndLongY) (fun _ => rfl) d8 rest

theorem oraAbsY (a16 : Word16) : Statement (.oraAbsY a16) := fun _ rest _ _ =>
  matrix_a16 (op := 0x19#8) (i := .oraAbsY) (fun _ => rfl) a16 rest

theorem trbAbs (a16 : Word16) : Statement (.trbAbs a16) := fun _ rest _ _ =>
  matrix_a16 (op := 0x1C#8) (i := .trbAbs) (fun _ => rfl) a16 rest

theorem oraAbsX (a16 : Word16) : Statement (.oraAbsX a16) := fun _ rest _ _ =>
  matrix_a16 (op := 0x1D#8) (i := .oraAbsX) (fun _ => rfl) a16 rest

theorem aslAbsX (a16 : Word16) : Statement (.aslAbsX a16) := fun _ rest _ _ =>
  matrix_a16 (op := 0x1E#8) (i := .aslAbsX) (fun _ => rfl) a16 rest

theorem oraLongX (a24 : Long24) : Statement (.oraLongX a24) := fun _ rest _ _ =>
  matrix_a24 (op := 0x1F#8) (i := .oraLongX) (fun _ => rfl) a24 rest

theorem jsrAbs (a16 : Word16) : Statement (.jsrAbs a16) := fun _ rest _ _ =>
  matrix_a16 (op := 0x20#8) (i := .jsrAbs) (fun _ => rfl) a16 rest

theorem andIndX (d8 : Byte) : Statement (.andIndX d8) := fun _ rest _ _ =>
  matrix_byte (op := 0x21#8) (i := .andIndX) (fun _ => rfl) d8 rest

theorem jsl (a24 : Long24) : Statement (.jsl a24) := fun _ rest _ _ =>
  matrix_a24 (op := 0x22#8) (i := .jsl) (fun _ => rfl) a24 rest

theorem andSr (d8 : Byte) : Statement (.andSr d8) := fun _ rest _ _ =>
  matrix_byte (op := 0x23#8) (i := .andSr) (fun _ => rfl) d8 rest

theorem bitDir (d8 : Byte) : Statement (.bitDir d8) := fun _ rest _ _ =>
  matrix_byte (op := 0x24#8) (i := .bitDir) (fun _ => rfl) d8 rest

theorem andDir (d8 : Byte) : Statement (.andDir d8) := fun _ rest _ _ =>
  matrix_byte (op := 0x25#8) (i := .andDir) (fun _ => rfl) d8 rest

theorem rolDir (d8 : Byte) : Statement (.rolDir d8) := fun _ rest _ _ =>
  matrix_byte (op := 0x26#8) (i := .rolDir) (fun _ => rfl) d8 rest

theorem andIndLong (d8 : Byte) : Statement (.andIndLong d8) := fun _ rest _ _ =>
  matrix_byte (op := 0x27#8) (i := .andIndLong) (fun _ => rfl) d8 rest

theorem andImm (v : Word32) : Statement (.andImm v) := fun _ rest _ hf =>
  matrix_imm (op := 0x29#8) (i := .andImm) (fun _ => rfl) v rest (of_decide_eq_true hf)

theorem bitAbs (a16 : Word16) : Statement (.bitAbs a16) := fun _ rest _ _ =>
  matrix_a16 (op := 0x2C#8) (i := .bitAbs) (fun _ => rfl) a16 rest

theorem andAbs (a16 : Word16) : Statement (.andAbs a16) := fun _ rest _ _ =>
  matrix_a16 (op := 0x2D#8) (i := .andAbs) (fun _ => rfl) a16 rest

theorem rolAbs (a16 : Word16) : Statement (.rolAbs a16) := fun _ rest _ _ =>
  matrix_a16 (op := 0x2E#8) (i := .rolAbs) (fun _ => rfl) a16 rest

theorem andLong (a24 : Long24) : Statement (.andLong a24) := fun _ rest _ _ =>
  matrix_a24 (op := 0x2F#8) (i := .andLong) (fun _ => rfl) a24 rest

theorem bmi (r8 : Byte) : Statement (.bmi r8) := fun _ rest _ _ =>
  matrix_byte (op := 0x30#8) (i := .bmi) (fun _ => rfl) r8 rest

theorem andIndY (d8 : Byte) : Statement (.andIndY d8) := fun _ rest _ _ =>
  matrix_byte (op := 0x31#8) (i := .andIndY) (fun _ => rfl) d8 rest

theorem andInd (d8 : Byte) : Statement (.andInd d8) := fun _ rest _ _ =>
  matrix_byte (op := 0x32#8) (i := .andInd) (fun _ => rfl) d8 rest

theorem andSrIndY (d8 : Byte) : Statement (.andSrIndY d8) := fun _ rest _ _ =>
  matrix_byte (op := 0x33#8) (i := .andSrIndY) (fun _ => rfl) d8 rest

theorem bitDirX (d8 : Byte) : Statement (.bitDirX d8) := fun _ rest _ _ =>
  matrix_byte (op := 0x34#8) (i := .bitDirX) (fun _ => rfl) d8 rest

theorem andDirX (d8 : Byte) : Statement (.andDirX d8) := fun _ rest _ _ =>
  matrix_byte (op := 0x35#8) (i := .andDirX) (fun _ => rfl) d8 rest

theorem rolDirX (d8 : Byte) : Statement (.rolDirX d8) := fun _ rest _ _ =>
  matrix_byte (op := 0x36#8) (i := .rolDirX) (fun _ => rfl) d8 rest

theorem andIndLongY (d8 : Byte) : Statement (.andIndLongY d8) := fun _ rest _ _ =>
  matrix_byte (op := 0x37#8) (i := .andIndLongY) (fun _ => rfl) d8 rest

theorem andAbsY (a16 : Word16) : Statement (.andAbsY a16) := fun _ rest _ _ =>
  matrix_a16 (op := 0x39#8) (i := .andAbsY) (fun _ => rfl) a16 rest

theorem bitAbsX (a16 : Word16) : Statement (.bitAbsX a16) := fun _ rest _ _ =>
  matrix_a16 (op := 0x3C#8) (i := .bitAbsX) (fun _ => rfl) a16 rest

theorem andAbsX (a16 : Word16) : Statement (.andAbsX a16) := fun _ rest _ _ =>
  matrix_a16 (op := 0x3D#8) (i := .andAbsX) (fun _ => rfl) a16 rest

theorem rolAbsX (a16 : Word16) : Statement (.rolAbsX a16) := fun _ rest _ _ =>
  matrix_a16 (op := 0x3E#8) (i := .rolAbsX) (fun _ => rfl) a16 rest

theorem andLongX (a24 : Long24) : Statement (.andLongX a24) := fun _ rest _ _ =>
  matrix_a24 (op := 0x3F#8) (i := .andLongX) (fun _ => rfl) a24 rest

theorem eorIndX (d8 : Byte) : Statement (.eorIndX d8) := fun _ rest _ _ =>
  matrix_byte (op := 0x41#8) (i := .eorIndX) (fun _ => rfl) d8 rest

theorem eorSr (d8 : Byte) : Statement (.eorSr d8) := fun _ rest _ _ =>
  matrix_byte (op := 0x43#8) (i := .eorSr) (fun _ => rfl) d8 rest

theorem mvp (dst : Byte) (src : Byte) : Statement (.mvp dst src) := fun _ rest _ _ =>
  matrix_banks (op := 0x44#8) (i := .mvp) (fun _ => rfl) dst src rest

theorem eorDir (d8 : Byte) : Statement (.eorDir d8) := fun _ rest _ _ =>
  matrix_byte (op := 0x45#8) (i := .eorDir) (fun _ => rfl) d8 rest

theorem lsrDir (d8 : Byte) : Statement (.lsrDir d8) := fun _ rest _ _ =>
  matrix_byte (op := 0x46#8) (i := .lsrDir) (fun _ => rfl) d8 rest

theorem eorIndLong (d8 : Byte) : Statement (.eorIndLong d8) := fun _ rest _ _ =>
  matrix_byte (op := 0x47#8) (i := .eorIndLong) (fun _ => rfl) d8 rest

theorem eorImm (v : Word32) : Statement (.eorImm v) := fun _ rest _ hf =>
  matrix_imm (op := 0x49#8) (i := .eorImm) (fun _ => rfl) v rest (of_decide_eq_true hf)

theorem jmpAbs (a16 : Word16) : Statement (.jmpAbs a16) := fun _ rest _ _ =>
  matrix_a16 (op := 0x4C#8) (i := .jmpAbs) (fun _ => rfl) a16 rest

theorem eorAbs (a16 : Word16) : Statement (.eorAbs a16) := fun _ rest _ _ =>
  matrix_a16 (op := 0x4D#8) (i := .eorAbs) (fun _ => rfl) a16 rest

theorem lsrAbs (a16 : Word16) : Statement (.lsrAbs a16) := fun _ rest _ _ =>
  matrix_a16 (op := 0x4E#8) (i := .lsrAbs) (fun _ => rfl) a16 rest

theorem eorLong (a24 : Long24) : Statement (.eorLong a24) := fun _ rest _ _ =>
  matrix_a24 (op := 0x4F#8) (i := .eorLong) (fun _ => rfl) a24 rest

theorem bvc (r8 : Byte) : Statement (.bvc r8) := fun _ rest _ _ =>
  matrix_byte (op := 0x50#8) (i := .bvc) (fun _ => rfl) r8 rest

theorem eorIndY (d8 : Byte) : Statement (.eorIndY d8) := fun _ rest _ _ =>
  matrix_byte (op := 0x51#8) (i := .eorIndY) (fun _ => rfl) d8 rest

theorem eorInd (d8 : Byte) : Statement (.eorInd d8) := fun _ rest _ _ =>
  matrix_byte (op := 0x52#8) (i := .eorInd) (fun _ => rfl) d8 rest

theorem eorSrIndY (d8 : Byte) : Statement (.eorSrIndY d8) := fun _ rest _ _ =>
  matrix_byte (op := 0x53#8) (i := .eorSrIndY) (fun _ => rfl) d8 rest

theorem mvn (dst : Byte) (src : Byte) : Statement (.mvn dst src) := fun _ rest _ _ =>
  matrix_banks (op := 0x54#8) (i := .mvn) (fun _ => rfl) dst src rest

theorem eorDirX (d8 : Byte) : Statement (.eorDirX d8) := fun _ rest _ _ =>
  matrix_byte (op := 0x55#8) (i := .eorDirX) (fun _ => rfl) d8 rest

theorem lsrDirX (d8 : Byte) : Statement (.lsrDirX d8) := fun _ rest _ _ =>
  matrix_byte (op := 0x56#8) (i := .lsrDirX) (fun _ => rfl) d8 rest

theorem eorIndLongY (d8 : Byte) : Statement (.eorIndLongY d8) := fun _ rest _ _ =>
  matrix_byte (op := 0x57#8) (i := .eorIndLongY) (fun _ => rfl) d8 rest

theorem eorAbsY (a16 : Word16) : Statement (.eorAbsY a16) := fun _ rest _ _ =>
  matrix_a16 (op := 0x59#8) (i := .eorAbsY) (fun _ => rfl) a16 rest

theorem jmlLong (a24 : Long24) : Statement (.jmlLong a24) := fun _ rest _ _ =>
  matrix_a24 (op := 0x5C#8) (i := .jmlLong) (fun _ => rfl) a24 rest

theorem eorAbsX (a16 : Word16) : Statement (.eorAbsX a16) := fun _ rest _ _ =>
  matrix_a16 (op := 0x5D#8) (i := .eorAbsX) (fun _ => rfl) a16 rest

theorem lsrAbsX (a16 : Word16) : Statement (.lsrAbsX a16) := fun _ rest _ _ =>
  matrix_a16 (op := 0x5E#8) (i := .lsrAbsX) (fun _ => rfl) a16 rest

theorem eorLongX (a24 : Long24) : Statement (.eorLongX a24) := fun _ rest _ _ =>
  matrix_a24 (op := 0x5F#8) (i := .eorLongX) (fun _ => rfl) a24 rest

theorem adcIndX (d8 : Byte) : Statement (.adcIndX d8) := fun _ rest _ _ =>
  matrix_byte (op := 0x61#8) (i := .adcIndX) (fun _ => rfl) d8 rest

theorem per (r16 : Word16) : Statement (.per r16) := fun _ rest _ _ =>
  matrix_a16 (op := 0x62#8) (i := .per) (fun _ => rfl) r16 rest

theorem adcSr (d8 : Byte) : Statement (.adcSr d8) := fun _ rest _ _ =>
  matrix_byte (op := 0x63#8) (i := .adcSr) (fun _ => rfl) d8 rest

theorem stzDir (d8 : Byte) : Statement (.stzDir d8) := fun _ rest _ _ =>
  matrix_byte (op := 0x64#8) (i := .stzDir) (fun _ => rfl) d8 rest

theorem adcDir (d8 : Byte) : Statement (.adcDir d8) := fun _ rest _ _ =>
  matrix_byte (op := 0x65#8) (i := .adcDir) (fun _ => rfl) d8 rest

theorem rorDir (d8 : Byte) : Statement (.rorDir d8) := fun _ rest _ _ =>
  matrix_byte (op := 0x66#8) (i := .rorDir) (fun _ => rfl) d8 rest

theorem adcIndLong (d8 : Byte) : Statement (.adcIndLong d8) := fun _ rest _ _ =>
  matrix_byte (op := 0x67#8) (i := .adcIndLong) (fun _ => rfl) d8 rest

theorem adcImm (v : Word32) : Statement (.adcImm v) := fun _ rest _ hf =>
  matrix_imm (op := 0x69#8) (i := .adcImm) (fun _ => rfl) v rest (of_decide_eq_true hf)

theorem jmpAbsInd (a16 : Word16) : Statement (.jmpAbsInd a16) := fun _ rest _ _ =>
  matrix_a16 (op := 0x6C#8) (i := .jmpAbsInd) (fun _ => rfl) a16 rest

theorem adcAbs (a16 : Word16) : Statement (.adcAbs a16) := fun _ rest _ _ =>
  matrix_a16 (op := 0x6D#8) (i := .adcAbs) (fun _ => rfl) a16 rest

theorem rorAbs (a16 : Word16) : Statement (.rorAbs a16) := fun _ rest _ _ =>
  matrix_a16 (op := 0x6E#8) (i := .rorAbs) (fun _ => rfl) a16 rest

theorem adcLong (a24 : Long24) : Statement (.adcLong a24) := fun _ rest _ _ =>
  matrix_a24 (op := 0x6F#8) (i := .adcLong) (fun _ => rfl) a24 rest

theorem bvs (r8 : Byte) : Statement (.bvs r8) := fun _ rest _ _ =>
  matrix_byte (op := 0x70#8) (i := .bvs) (fun _ => rfl) r8 rest

theorem adcIndY (d8 : Byte) : Statement (.adcIndY d8) := fun _ rest _ _ =>
  matrix_byte (op := 0x71#8) (i := .adcIndY) (fun _ => rfl) d8 rest

theorem adcInd (d8 : Byte) : Statement (.adcInd d8) := fun _ rest _ _ =>
  matrix_byte (op := 0x72#8) (i := .adcInd) (fun _ => rfl) d8 rest

theorem adcSrIndY (d8 : Byte) : Statement (.adcSrIndY d8) := fun _ rest _ _ =>
  matrix_byte (op := 0x73#8) (i := .adcSrIndY) (fun _ => rfl) d8 rest

theorem stzDirX (d8 : Byte) : Statement (.stzDirX d8) := fun _ rest _ _ =>
  matrix_byte (op := 0x74#8) (i := .stzDirX) (fun _ => rfl) d8 rest

theorem adcDirX (d8 : Byte) : Statement (.adcDirX d8) := fun _ rest _ _ =>
  matrix_byte (op := 0x75#8) (i := .adcDirX) (fun _ => rfl) d8 rest

theorem rorDirX (d8 : Byte) : Statement (.rorDirX d8) := fun _ rest _ _ =>
  matrix_byte (op := 0x76#8) (i := .rorDirX) (fun _ => rfl) d8 rest

theorem adcIndLongY (d8 : Byte) : Statement (.adcIndLongY d8) := fun _ rest _ _ =>
  matrix_byte (op := 0x77#8) (i := .adcIndLongY) (fun _ => rfl) d8 rest

theorem adcAbsY (a16 : Word16) : Statement (.adcAbsY a16) := fun _ rest _ _ =>
  matrix_a16 (op := 0x79#8) (i := .adcAbsY) (fun _ => rfl) a16 rest

theorem jmpAbsIndX (a16 : Word16) : Statement (.jmpAbsIndX a16) := fun _ rest _ _ =>
  matrix_a16 (op := 0x7C#8) (i := .jmpAbsIndX) (fun _ => rfl) a16 rest

theorem adcAbsX (a16 : Word16) : Statement (.adcAbsX a16) := fun _ rest _ _ =>
  matrix_a16 (op := 0x7D#8) (i := .adcAbsX) (fun _ => rfl) a16 rest

theorem rorAbsX (a16 : Word16) : Statement (.rorAbsX a16) := fun _ rest _ _ =>
  matrix_a16 (op := 0x7E#8) (i := .rorAbsX) (fun _ => rfl) a16 rest

theorem adcLongX (a24 : Long24) : Statement (.adcLongX a24) := fun _ rest _ _ =>
  matrix_a24 (op := 0x7F#8) (i := .adcLongX) (fun _ => rfl) a24 rest

theorem bra (r8 : Byte) : Statement (.bra r8) := fun _ rest _ _ =>
  matrix_byte (op := 0x80#8) (i := .bra) (fun _ => rfl) r8 rest

theorem staIndX (d8 : Byte) : Statement (.staIndX d8) := fun _ rest _ _ =>
  matrix_byte (op := 0x81#8) (i := .staIndX) (fun _ => rfl) d8 rest

theorem brl (r16 : Word16) : Statement (.brl r16) := fun _ rest _ _ =>
  matrix_a16 (op := 0x82#8) (i := .brl) (fun _ => rfl) r16 rest

theorem staSr (d8 : Byte) : Statement (.staSr d8) := fun _ rest _ _ =>
  matrix_byte (op := 0x83#8) (i := .staSr) (fun _ => rfl) d8 rest

theorem styDir (d8 : Byte) : Statement (.styDir d8) := fun _ rest _ _ =>
  matrix_byte (op := 0x84#8) (i := .styDir) (fun _ => rfl) d8 rest

theorem staDir (d8 : Byte) : Statement (.staDir d8) := fun _ rest _ _ =>
  matrix_byte (op := 0x85#8) (i := .staDir) (fun _ => rfl) d8 rest

theorem stxDir (d8 : Byte) : Statement (.stxDir d8) := fun _ rest _ _ =>
  matrix_byte (op := 0x86#8) (i := .stxDir) (fun _ => rfl) d8 rest

theorem staIndLong (d8 : Byte) : Statement (.staIndLong d8) := fun _ rest _ _ =>
  matrix_byte (op := 0x87#8) (i := .staIndLong) (fun _ => rfl) d8 rest

theorem bitImm (v : Word32) : Statement (.bitImm v) := fun _ rest _ hf =>
  matrix_imm (op := 0x89#8) (i := .bitImm) (fun _ => rfl) v rest (of_decide_eq_true hf)

theorem styAbs (a16 : Word16) : Statement (.styAbs a16) := fun _ rest _ _ =>
  matrix_a16 (op := 0x8C#8) (i := .styAbs) (fun _ => rfl) a16 rest

theorem staAbs (a16 : Word16) : Statement (.staAbs a16) := fun _ rest _ _ =>
  matrix_a16 (op := 0x8D#8) (i := .staAbs) (fun _ => rfl) a16 rest

theorem stxAbs (a16 : Word16) : Statement (.stxAbs a16) := fun _ rest _ _ =>
  matrix_a16 (op := 0x8E#8) (i := .stxAbs) (fun _ => rfl) a16 rest

theorem staLong (a24 : Long24) : Statement (.staLong a24) := fun _ rest _ _ =>
  matrix_a24 (op := 0x8F#8) (i := .staLong) (fun _ => rfl) a24 rest

theorem bcc (r8 : Byte) : Statement (.bcc r8) := fun _ rest _ _ =>
  matrix_byte (op := 0x90#8) (i := .bcc) (fun _ => rfl) r8 rest

theorem staIndY (d8 : Byte) : Statement (.staIndY d8) := fun _ rest _ _ =>
  matrix_byte (op := 0x91#8) (i := .staIndY) (fun _ => rfl) d8 rest

theorem staInd (d8 : Byte) : Statement (.staInd d8) := fun _ rest _ _ =>
  matrix_byte (op := 0x92#8) (i := .staInd) (fun _ => rfl) d8 rest

theorem staSrIndY (d8 : Byte) : Statement (.staSrIndY d8) := fun _ rest _ _ =>
  matrix_byte (op := 0x93#8) (i := .staSrIndY) (fun _ => rfl) d8 rest

theorem styDirX (d8 : Byte) : Statement (.styDirX d8) := fun _ rest _ _ =>
  matrix_byte (op := 0x94#8) (i := .styDirX) (fun _ => rfl) d8 rest

theorem staDirX (d8 : Byte) : Statement (.staDirX d8) := fun _ rest _ _ =>
  matrix_byte (op := 0x95#8) (i := .staDirX) (fun _ => rfl) d8 rest

theorem stxDirY (d8 : Byte) : Statement (.stxDirY d8) := fun _ rest _ _ =>
  matrix_byte (op := 0x96#8) (i := .stxDirY) (fun _ => rfl) d8 rest

theorem staIndLongY (d8 : Byte) : Statement (.staIndLongY d8) := fun _ rest _ _ =>
  matrix_byte (op := 0x97#8) (i := .staIndLongY) (fun _ => rfl) d8 rest

theorem staAbsY (a16 : Word16) : Statement (.staAbsY a16) := fun _ rest _ _ =>
  matrix_a16 (op := 0x99#8) (i := .staAbsY) (fun _ => rfl) a16 rest

theorem stzAbs (a16 : Word16) : Statement (.stzAbs a16) := fun _ rest _ _ =>
  matrix_a16 (op := 0x9C#8) (i := .stzAbs) (fun _ => rfl) a16 rest

theorem staAbsX (a16 : Word16) : Statement (.staAbsX a16) := fun _ rest _ _ =>
  matrix_a16 (op := 0x9D#8) (i := .staAbsX) (fun _ => rfl) a16 rest

theorem stzAbsX (a16 : Word16) : Statement (.stzAbsX a16) := fun _ rest _ _ =>
  matrix_a16 (op := 0x9E#8) (i := .stzAbsX) (fun _ => rfl) a16 rest

theorem staLongX (a24 : Long24) : Statement (.staLongX a24) := fun _ rest _ _ =>
  matrix_a24 (op := 0x9F#8) (i := .staLongX) (fun _ => rfl) a24 rest

theorem ldyImm (v : Word32) : Statement (.ldyImm v) := fun _ rest _ hf =>
  matrix_imm (op := 0xA0#8) (i := .ldyImm) (fun _ => rfl) v rest (of_decide_eq_true hf)

theorem ldaIndX (d8 : Byte) : Statement (.ldaIndX d8) := fun _ rest _ _ =>
  matrix_byte (op := 0xA1#8) (i := .ldaIndX) (fun _ => rfl) d8 rest

theorem ldxImm (v : Word32) : Statement (.ldxImm v) := fun _ rest _ hf =>
  matrix_imm (op := 0xA2#8) (i := .ldxImm) (fun _ => rfl) v rest (of_decide_eq_true hf)

theorem ldaSr (d8 : Byte) : Statement (.ldaSr d8) := fun _ rest _ _ =>
  matrix_byte (op := 0xA3#8) (i := .ldaSr) (fun _ => rfl) d8 rest

theorem ldyDir (d8 : Byte) : Statement (.ldyDir d8) := fun _ rest _ _ =>
  matrix_byte (op := 0xA4#8) (i := .ldyDir) (fun _ => rfl) d8 rest

theorem ldaDir (d8 : Byte) : Statement (.ldaDir d8) := fun _ rest _ _ =>
  matrix_byte (op := 0xA5#8) (i := .ldaDir) (fun _ => rfl) d8 rest

theorem ldxDir (d8 : Byte) : Statement (.ldxDir d8) := fun _ rest _ _ =>
  matrix_byte (op := 0xA6#8) (i := .ldxDir) (fun _ => rfl) d8 rest

theorem ldaIndLong (d8 : Byte) : Statement (.ldaIndLong d8) := fun _ rest _ _ =>
  matrix_byte (op := 0xA7#8) (i := .ldaIndLong) (fun _ => rfl) d8 rest

theorem ldaImm (v : Word32) : Statement (.ldaImm v) := fun _ rest _ hf =>
  matrix_imm (op := 0xA9#8) (i := .ldaImm) (fun _ => rfl) v rest (of_decide_eq_true hf)

theorem ldyAbs (a16 : Word16) : Statement (.ldyAbs a16) := fun _ rest _ _ =>
  matrix_a16 (op := 0xAC#8) (i := .ldyAbs) (fun _ => rfl) a16 rest

theorem ldaAbs (a16 : Word16) : Statement (.ldaAbs a16) := fun _ rest _ _ =>
  matrix_a16 (op := 0xAD#8) (i := .ldaAbs) (fun _ => rfl) a16 rest

theorem ldxAbs (a16 : Word16) : Statement (.ldxAbs a16) := fun _ rest _ _ =>
  matrix_a16 (op := 0xAE#8) (i := .ldxAbs) (fun _ => rfl) a16 rest

theorem ldaLong (a24 : Long24) : Statement (.ldaLong a24) := fun _ rest _ _ =>
  matrix_a24 (op := 0xAF#8) (i := .ldaLong) (fun _ => rfl) a24 rest

theorem bcs (r8 : Byte) : Statement (.bcs r8) := fun _ rest _ _ =>
  matrix_byte (op := 0xB0#8) (i := .bcs) (fun _ => rfl) r8 rest

theorem ldaIndY (d8 : Byte) : Statement (.ldaIndY d8) := fun _ rest _ _ =>
  matrix_byte (op := 0xB1#8) (i := .ldaIndY) (fun _ => rfl) d8 rest

theorem ldaInd (d8 : Byte) : Statement (.ldaInd d8) := fun _ rest _ _ =>
  matrix_byte (op := 0xB2#8) (i := .ldaInd) (fun _ => rfl) d8 rest

theorem ldaSrIndY (d8 : Byte) : Statement (.ldaSrIndY d8) := fun _ rest _ _ =>
  matrix_byte (op := 0xB3#8) (i := .ldaSrIndY) (fun _ => rfl) d8 rest

theorem ldyDirX (d8 : Byte) : Statement (.ldyDirX d8) := fun _ rest _ _ =>
  matrix_byte (op := 0xB4#8) (i := .ldyDirX) (fun _ => rfl) d8 rest

theorem ldaDirX (d8 : Byte) : Statement (.ldaDirX d8) := fun _ rest _ _ =>
  matrix_byte (op := 0xB5#8) (i := .ldaDirX) (fun _ => rfl) d8 rest

theorem ldxDirY (d8 : Byte) : Statement (.ldxDirY d8) := fun _ rest _ _ =>
  matrix_byte (op := 0xB6#8) (i := .ldxDirY) (fun _ => rfl) d8 rest

theorem ldaIndLongY (d8 : Byte) : Statement (.ldaIndLongY d8) := fun _ rest _ _ =>
  matrix_byte (op := 0xB7#8) (i := .ldaIndLongY) (fun _ => rfl) d8 rest

theorem ldaAbsY (a16 : Word16) : Statement (.ldaAbsY a16) := fun _ rest _ _ =>
  matrix_a16 (op := 0xB9#8) (i := .ldaAbsY) (fun _ => rfl) a16 rest

theorem ldyAbsX (a16 : Word16) : Statement (.ldyAbsX a16) := fun _ rest _ _ =>
  matrix_a16 (op := 0xBC#8) (i := .ldyAbsX) (fun _ => rfl) a16 rest

theorem ldaAbsX (a16 : Word16) : Statement (.ldaAbsX a16) := fun _ rest _ _ =>
  matrix_a16 (op := 0xBD#8) (i := .ldaAbsX) (fun _ => rfl) a16 rest

theorem ldxAbsY (a16 : Word16) : Statement (.ldxAbsY a16) := fun _ rest _ _ =>
  matrix_a16 (op := 0xBE#8) (i := .ldxAbsY) (fun _ => rfl) a16 rest

theorem ldaLongX (a24 : Long24) : Statement (.ldaLongX a24) := fun _ rest _ _ =>
  matrix_a24 (op := 0xBF#8) (i := .ldaLongX) (fun _ => rfl) a24 rest

theorem cpyImm (v : Word32) : Statement (.cpyImm v) := fun _ rest _ hf =>
  matrix_imm (op := 0xC0#8) (i := .cpyImm) (fun _ => rfl) v rest (of_decide_eq_true hf)

theorem cmpIndX (d8 : Byte) : Statement (.cmpIndX d8) := fun _ rest _ _ =>
  matrix_byte (op := 0xC1#8) (i := .cmpIndX) (fun _ => rfl) d8 rest

theorem rep (m8 : Byte) : Statement (.rep m8) := fun _ rest _ _ =>
  matrix_byte (op := 0xC2#8) (i := .rep) (fun _ => rfl) m8 rest

theorem cmpSr (d8 : Byte) : Statement (.cmpSr d8) := fun _ rest _ _ =>
  matrix_byte (op := 0xC3#8) (i := .cmpSr) (fun _ => rfl) d8 rest

theorem cpyDir (d8 : Byte) : Statement (.cpyDir d8) := fun _ rest _ _ =>
  matrix_byte (op := 0xC4#8) (i := .cpyDir) (fun _ => rfl) d8 rest

theorem cmpDir (d8 : Byte) : Statement (.cmpDir d8) := fun _ rest _ _ =>
  matrix_byte (op := 0xC5#8) (i := .cmpDir) (fun _ => rfl) d8 rest

theorem decDir (d8 : Byte) : Statement (.decDir d8) := fun _ rest _ _ =>
  matrix_byte (op := 0xC6#8) (i := .decDir) (fun _ => rfl) d8 rest

theorem cmpIndLong (d8 : Byte) : Statement (.cmpIndLong d8) := fun _ rest _ _ =>
  matrix_byte (op := 0xC7#8) (i := .cmpIndLong) (fun _ => rfl) d8 rest

theorem cmpImm (v : Word32) : Statement (.cmpImm v) := fun _ rest _ hf =>
  matrix_imm (op := 0xC9#8) (i := .cmpImm) (fun _ => rfl) v rest (of_decide_eq_true hf)

theorem cpyAbs (a16 : Word16) : Statement (.cpyAbs a16) := fun _ rest _ _ =>
  matrix_a16 (op := 0xCC#8) (i := .cpyAbs) (fun _ => rfl) a16 rest

theorem cmpAbs (a16 : Word16) : Statement (.cmpAbs a16) := fun _ rest _ _ =>
  matrix_a16 (op := 0xCD#8) (i := .cmpAbs) (fun _ => rfl) a16 rest

theorem decAbs (a16 : Word16) : Statement (.decAbs a16) := fun _ rest _ _ =>
  matrix_a16 (op := 0xCE#8) (i := .decAbs) (fun _ => rfl) a16 rest

theorem cmpLong (a24 : Long24) : Statement (.cmpLong a24) := fun _ rest _ _ =>
  matrix_a24 (op := 0xCF#8) (i := .cmpLong) (fun _ => rfl) a24 rest

theorem bne (r8 : Byte) : Statement (.bne r8) := fun _ rest _ _ =>
  matrix_byte (op := 0xD0#8) (i := .bne) (fun _ => rfl) r8 rest

theorem cmpIndY (d8 : Byte) : Statement (.cmpIndY d8) := fun _ rest _ _ =>
  matrix_byte (op := 0xD1#8) (i := .cmpIndY) (fun _ => rfl) d8 rest

theorem cmpInd (d8 : Byte) : Statement (.cmpInd d8) := fun _ rest _ _ =>
  matrix_byte (op := 0xD2#8) (i := .cmpInd) (fun _ => rfl) d8 rest

theorem cmpSrIndY (d8 : Byte) : Statement (.cmpSrIndY d8) := fun _ rest _ _ =>
  matrix_byte (op := 0xD3#8) (i := .cmpSrIndY) (fun _ => rfl) d8 rest

theorem pei (d8 : Byte) : Statement (.pei d8) := fun _ rest _ _ =>
  matrix_byte (op := 0xD4#8) (i := .pei) (fun _ => rfl) d8 rest

theorem cmpDirX (d8 : Byte) : Statement (.cmpDirX d8) := fun _ rest _ _ =>
  matrix_byte (op := 0xD5#8) (i := .cmpDirX) (fun _ => rfl) d8 rest

theorem decDirX (d8 : Byte) : Statement (.decDirX d8) := fun _ rest _ _ =>
  matrix_byte (op := 0xD6#8) (i := .decDirX) (fun _ => rfl) d8 rest

theorem cmpIndLongY (d8 : Byte) : Statement (.cmpIndLongY d8) := fun _ rest _ _ =>
  matrix_byte (op := 0xD7#8) (i := .cmpIndLongY) (fun _ => rfl) d8 rest

theorem cmpAbsY (a16 : Word16) : Statement (.cmpAbsY a16) := fun _ rest _ _ =>
  matrix_a16 (op := 0xD9#8) (i := .cmpAbsY) (fun _ => rfl) a16 rest

theorem jmlAbsIndLong (a16 : Word16) : Statement (.jmlAbsIndLong a16) := fun _ rest _ _ =>
  matrix_a16 (op := 0xDC#8) (i := .jmlAbsIndLong) (fun _ => rfl) a16 rest

theorem cmpAbsX (a16 : Word16) : Statement (.cmpAbsX a16) := fun _ rest _ _ =>
  matrix_a16 (op := 0xDD#8) (i := .cmpAbsX) (fun _ => rfl) a16 rest

theorem decAbsX (a16 : Word16) : Statement (.decAbsX a16) := fun _ rest _ _ =>
  matrix_a16 (op := 0xDE#8) (i := .decAbsX) (fun _ => rfl) a16 rest

theorem cmpLongX (a24 : Long24) : Statement (.cmpLongX a24) := fun _ rest _ _ =>
  matrix_a24 (op := 0xDF#8) (i := .cmpLongX) (fun _ => rfl) a24 rest

theorem cpxImm (v : Word32) : Statement (.cpxImm v) := fun _ rest _ hf =>
  matrix_imm (op := 0xE0#8) (i := .cpxImm) (fun _ => rfl) v rest (of_decide_eq_true hf)

theorem sbcIndX (d8 : Byte) : Statement (.sbcIndX d8) := fun _ rest _ _ =>
  matrix_byte (op := 0xE1#8) (i := .sbcIndX) (fun _ => rfl) d8 rest

theorem sep (m8 : Byte) : Statement (.sep m8) := fun _ rest _ _ =>
  matrix_byte (op := 0xE2#8) (i := .sep) (fun _ => rfl) m8 rest

theorem sbcSr (d8 : Byte) : Statement (.sbcSr d8) := fun _ rest _ _ =>
  matrix_byte (op := 0xE3#8) (i := .sbcSr) (fun _ => rfl) d8 rest

theorem cpxDir (d8 : Byte) : Statement (.cpxDir d8) := fun _ rest _ _ =>
  matrix_byte (op := 0xE4#8) (i := .cpxDir) (fun _ => rfl) d8 rest

theorem sbcDir (d8 : Byte) : Statement (.sbcDir d8) := fun _ rest _ _ =>
  matrix_byte (op := 0xE5#8) (i := .sbcDir) (fun _ => rfl) d8 rest

theorem incDir (d8 : Byte) : Statement (.incDir d8) := fun _ rest _ _ =>
  matrix_byte (op := 0xE6#8) (i := .incDir) (fun _ => rfl) d8 rest

theorem sbcIndLong (d8 : Byte) : Statement (.sbcIndLong d8) := fun _ rest _ _ =>
  matrix_byte (op := 0xE7#8) (i := .sbcIndLong) (fun _ => rfl) d8 rest

theorem sbcImm (v : Word32) : Statement (.sbcImm v) := fun _ rest _ hf =>
  matrix_imm (op := 0xE9#8) (i := .sbcImm) (fun _ => rfl) v rest (of_decide_eq_true hf)

theorem cpxAbs (a16 : Word16) : Statement (.cpxAbs a16) := fun _ rest _ _ =>
  matrix_a16 (op := 0xEC#8) (i := .cpxAbs) (fun _ => rfl) a16 rest

theorem sbcAbs (a16 : Word16) : Statement (.sbcAbs a16) := fun _ rest _ _ =>
  matrix_a16 (op := 0xED#8) (i := .sbcAbs) (fun _ => rfl) a16 rest

theorem incAbs (a16 : Word16) : Statement (.incAbs a16) := fun _ rest _ _ =>
  matrix_a16 (op := 0xEE#8) (i := .incAbs) (fun _ => rfl) a16 rest

theorem sbcLong (a24 : Long24) : Statement (.sbcLong a24) := fun _ rest _ _ =>
  matrix_a24 (op := 0xEF#8) (i := .sbcLong) (fun _ => rfl) a24 rest

theorem beq (r8 : Byte) : Statement (.beq r8) := fun _ rest _ _ =>
  matrix_byte (op := 0xF0#8) (i := .beq) (fun _ => rfl) r8 rest

theorem sbcIndY (d8 : Byte) : Statement (.sbcIndY d8) := fun _ rest _ _ =>
  matrix_byte (op := 0xF1#8) (i := .sbcIndY) (fun _ => rfl) d8 rest

theorem sbcInd (d8 : Byte) : Statement (.sbcInd d8) := fun _ rest _ _ =>
  matrix_byte (op := 0xF2#8) (i := .sbcInd) (fun _ => rfl) d8 rest

theorem sbcSrIndY (d8 : Byte) : Statement (.sbcSrIndY d8) := fun _ rest _ _ =>
  matrix_byte (op := 0xF3#8) (i := .sbcSrIndY) (fun _ => rfl) d8 rest

theorem pea (a16 : Word16) : Statement (.pea a16) := fun _ rest _ _ =>
  matrix_a16 (op := 0xF4#8) (i := .pea) (fun _ => rfl) a16 rest

theorem sbcDirX (d8 : Byte) : Statement (.sbcDirX d8) := fun _ rest _ _ =>
  matrix_byte (op := 0xF5#8) (i := .sbcDirX) (fun _ => rfl) d8 rest

theorem incDirX (d8 : Byte) : Statement (.incDirX d8) := fun _ rest _ _ =>
  matrix_byte (op := 0xF6#8) (i := .incDirX) (fun _ => rfl) d8 rest

theorem sbcIndLongY (d8 : Byte) : Statement (.sbcIndLongY d8) := fun _ rest _ _ =>
  matrix_byte (op := 0xF7#8) (i := .sbcIndLongY) (fun _ => rfl) d8 rest

theorem sbcAbsY (a16 : Word16) : Statement (.sbcAbsY a16) := fun _ rest _ _ =>
  matrix_a16 (op := 0xF9#8) (i := .sbcAbsY) (fun _ => rfl) a16 rest

theorem jsrAbsIndX (a16 : Word16) : Statement (.jsrAbsIndX a16) := fun _ rest _ _ =>
  matrix_a16 (op := 0xFC#8) (i := .jsrAbsIndX) (fun _ => rfl) a16 rest

theorem sbcAbsX (a16 : Word16) : Statement (.sbcAbsX a16) := fun _ rest _ _ =>
  matrix_a16 (op := 0xFD#8) (i := .sbcAbsX) (fun _ => rfl) a16 rest

theorem incAbsX (a16 : Word16) : Statement (.incAbsX a16) := fun _ rest _ _ =>
  matrix_a16 (op := 0xFE#8) (i := .incAbsX) (fun _ => rfl) a16 rest

theorem sbcLongX (a24 : Long24) : Statement (.sbcLongX a24) := fun _ rest _ _ =>
  matrix_a24 (op := 0xFF#8) (i := .sbcLongX) (fun _ => rfl) a24 rest

theorem wdm (skip : Byte) : Statement (.wdm skip) := fun _ rest _ _ =>
  matrix_byte (op := 0x42#8) (i := .wdm) (fun _ => rfl) skip rest

theorem php : Statement .php := fun _ _ _ _ => rfl

theorem aslAcc : Statement .aslAcc := fun _ _ _ _ => rfl

theorem phd : Statement .phd := fun _ _ _ _ => rfl

theorem clc : Statement .clc := fun _ _ _ _ => rfl

theorem incAcc : Statement .incAcc := fun _ _ _ _ => rfl

theorem tcs : Statement .tcs := fun _ _ _ _ => rfl

theorem plp : Statement .plp := fun _ _ _ _ => rfl

theorem rolAcc : Statement .rolAcc := fun _ _ _ _ => rfl

theorem pld : Statement .pld := fun _ _ _ _ => rfl

theorem sec : Statement .sec := fun _ _ _ _ => rfl

theorem decAcc : Statement .decAcc := fun _ _ _ _ => rfl

theorem tsc : Statement .tsc := fun _ _ _ _ => rfl

theorem rti : Statement .rti := fun _ _ _ _ => rfl

theorem xfe : Statement .xfe := fun _ _ h _ => absurd rfl h

theorem pha : Statement .pha := fun _ _ _ _ => rfl

theorem lsrAcc : Statement .lsrAcc := fun _ _ _ _ => rfl

theorem phk : Statement .phk := fun _ _ _ _ => rfl

theorem cli : Statement .cli := fun _ _ _ _ => rfl

theorem phy : Statement .phy := fun _ _ _ _ => rfl

theorem tcd : Statement .tcd := fun _ _ _ _ => rfl

theorem rts : Statement .rts := fun _ _ _ _ => rfl

theorem pla : Statement .pla := fun _ _ _ _ => rfl

theorem rorAcc : Statement .rorAcc := fun _ _ _ _ => rfl

theorem rtl : Statement .rtl := fun _ _ _ _ => rfl

theorem sei : Statement .sei := fun _ _ _ _ => rfl

theorem ply : Statement .ply := fun _ _ _ _ => rfl

theorem tdc : Statement .tdc := fun _ _ _ _ => rfl

theorem dey : Statement .dey := fun _ _ _ _ => rfl

theorem txa : Statement .txa := fun _ _ _ _ => rfl

theorem phb : Statement .phb := fun _ _ _ _ => rfl

theorem tya : Statement .tya := fun _ _ _ _ => rfl

theorem txs : Statement .txs := fun _ _ _ _ => rfl

theorem txy : Statement .txy := fun _ _ _ _ => rfl

theorem tay : Statement .tay := fun _ _ _ _ => rfl

theorem tax : Statement .tax := fun _ _ _ _ => rfl

theorem plb : Statement .plb := fun _ _ _ _ => rfl

theorem clv : Statement .clv := fun _ _ _ _ => rfl

theorem tsx : Statement .tsx := fun _ _ _ _ => rfl

theorem tyx : Statement .tyx := fun _ _ _ _ => rfl

theorem iny : Statement .iny := fun _ _ _ _ => rfl

theorem dex : Statement .dex := fun _ _ _ _ => rfl

theorem wai : Statement .wai := fun _ _ _ _ => rfl

theorem cld : Statement .cld := fun _ _ _ _ => rfl

theorem phx : Statement .phx := fun _ _ _ _ => rfl

theorem stp : Statement .stp := fun _ _ _ _ => rfl

theorem inx : Statement .inx := fun _ _ _ _ => rfl

theorem nop : Statement .nop := fun _ _ _ _ => rfl

theorem xba : Statement .xba := fun _ _ _ _ => rfl

theorem sed : Statement .sed := fun _ _ _ _ => rfl

theorem plx : Statement .plx := fun _ _ _ _ => rfl

theorem xce : Statement .xce := fun _ _ _ _ => rfl

end Sys2Proof.Laws.OperandReadBack
end

