-- ==== Sys2Proof/Laws/Runs.lean ====
section
/-! SUPPORT. What executing any instruction can be: the forms of one mnemonic are one shared meaning, and a
statement about every instruction is a case for each meaning (`runs`). -/

namespace Sys2Proof.Machine

/-- `Runs s i r`: executing the instruction `i` on `s` is the meaning that answers `r`. -/
inductive Runs (s : State) : Instr → Result → Prop where
  | lda {i : Instr} (src : Source) : i.mnemonic = .lda → sourceOf i.operand = some src →
      Runs s i (loadA src s)
  | ldx {i : Instr} (src : Source) : i.mnemonic = .ldx → sourceOf i.operand = some src →
      Runs s i (loadX src s)
  | ldy {i : Instr} (src : Source) : i.mnemonic = .ldy → sourceOf i.operand = some src →
      Runs s i (loadY src s)
  | adc {i : Instr} (src : Source) : i.mnemonic = .adc → sourceOf i.operand = some src →
      Runs s i (addA src s)
  | sbc {i : Instr} (src : Source) : i.mnemonic = .sbc → sourceOf i.operand = some src →
      Runs s i (subA src s)
  | cmp {i : Instr} (src : Source) : i.mnemonic = .cmp → sourceOf i.operand = some src →
      Runs s i (compareA src s)
  | cpx {i : Instr} (src : Source) : i.mnemonic = .cpx → sourceOf i.operand = some src →
      Runs s i (compareX src s)
  | cpy {i : Instr} (src : Source) : i.mnemonic = .cpy → sourceOf i.operand = some src →
      Runs s i (compareY src s)
  | and {i : Instr} (src : Source) : i.mnemonic = .and → sourceOf i.operand = some src →
      Runs s i (andA src s)
  | ora {i : Instr} (src : Source) : i.mnemonic = .ora → sourceOf i.operand = some src →
      Runs s i (orA src s)
  | eor {i : Instr} (src : Source) : i.mnemonic = .eor → sourceOf i.operand = some src →
      Runs s i (xorA src s)
  | inc {i : Instr} (tgt : Target) : i.mnemonic = .inc → targetOf i.operand = some tgt →
      Runs s i (increment tgt s)
  | dec {i : Instr} (tgt : Target) : i.mnemonic = .dec → targetOf i.operand = some tgt →
      Runs s i (decrement tgt s)
  | asl {i : Instr} (tgt : Target) : i.mnemonic = .asl → targetOf i.operand = some tgt →
      Runs s i (aslTarget tgt s)
  | lsr {i : Instr} (tgt : Target) : i.mnemonic = .lsr → targetOf i.operand = some tgt →
      Runs s i (lsrTarget tgt s)
  | rol {i : Instr} (tgt : Target) : i.mnemonic = .rol → targetOf i.operand = some tgt →
      Runs s i (rolTarget tgt s)
  | ror {i : Instr} (tgt : Target) : i.mnemonic = .ror → targetOf i.operand = some tgt →
      Runs s i (rorTarget tgt s)
  | sta {i : Instr} (mode : AddrMode) : i.mnemonic = .sta → i.operand = .addr mode →
      Runs s i (storeA mode s)
  | stx {i : Instr} (mode : AddrMode) : i.mnemonic = .stx → i.operand = .addr mode →
      Runs s i (storeX mode s)
  | sty {i : Instr} (mode : AddrMode) : i.mnemonic = .sty → i.operand = .addr mode →
      Runs s i (storeY mode s)
  | stz {i : Instr} (mode : AddrMode) : i.mnemonic = .stz → i.operand = .addr mode →
      Runs s i (storeZero mode s)
  | tsb {i : Instr} (mode : AddrMode) : i.mnemonic = .tsb → i.operand = .addr mode →
      Runs s i (testAndSet mode s)
  | trb {i : Instr} (mode : AddrMode) : i.mnemonic = .trb → i.operand = .addr mode →
      Runs s i (testAndReset mode s)
  | bit {i : Instr} (mode : AddrMode) : i.mnemonic = .bit → i.operand = .addr mode →
      Runs s i (bitMemory mode s)
  | bcc (r8 : Byte) : Runs s (.bcc r8) (branch (!s.flag .c) r8 s)
  | bcs (r8 : Byte) : Runs s (.bcs r8) (branch (s.flag .c) r8 s)
  | beq (r8 : Byte) : Runs s (.beq r8) (branch (s.flag .z) r8 s)
  | bne (r8 : Byte) : Runs s (.bne r8) (branch (!s.flag .z) r8 s)
  | bmi (r8 : Byte) : Runs s (.bmi r8) (branch (s.flag .n) r8 s)
  | bpl (r8 : Byte) : Runs s (.bpl r8) (branch (!s.flag .n) r8 s)
  | bvc (r8 : Byte) : Runs s (.bvc r8) (branch (!s.flag .v) r8 s)
  | bvs (r8 : Byte) : Runs s (.bvs r8) (branch (s.flag .v) r8 s)
  | bra (r8 : Byte) : Runs s (.bra r8) (branch true r8 s)
  | brk (sig : Byte) : Runs s (.brk sig) (execBrk sig s)
  | cop (sig : Byte) : Runs s (.cop sig) (execCop sig s)
  | php : Runs s .php (execPhp s)
  | phd : Runs s .phd (execPhd s)
  | clc : Runs s .clc (execClc s)
  | tcs : Runs s .tcs (execTcs s)
  | jsrAbs (a16 : Word16) : Runs s (.jsrAbs a16) (execJsrAbs a16 s)
  | jsl (a24 : Long24) : Runs s (.jsl a24) (execJsl a24 s)
  | plp : Runs s .plp (execPlp s)
  | pld : Runs s .pld (execPld s)
  | sec : Runs s .sec (execSec s)
  | tsc : Runs s .tsc (execTsc s)
  | rti : Runs s .rti (execRti s)
  | xfe : Runs s .xfe (execXfe s)
  | mvp (dst : Byte) (src : Byte) : Runs s (.mvp dst src) (execMvp dst src s)
  | pha : Runs s .pha (execPha s)
  | phk : Runs s .phk (execPhk s)
  | jmpAbs (a16 : Word16) : Runs s (.jmpAbs a16) (execJmpAbs a16 s)
  | mvn (dst : Byte) (src : Byte) : Runs s (.mvn dst src) (execMvn dst src s)
  | cli : Runs s .cli (execCli s)
  | phy : Runs s .phy (execPhy s)
  | tcd : Runs s .tcd (execTcd s)
  | jmlLong (a24 : Long24) : Runs s (.jmlLong a24) (execJmlLong a24 s)
  | rts : Runs s .rts (execRts s)
  | per (r16 : Word16) : Runs s (.per r16) (execPer r16 s)
  | pla : Runs s .pla (execPla s)
  | rtl : Runs s .rtl (execRtl s)
  | jmpAbsInd (a16 : Word16) : Runs s (.jmpAbsInd a16) (execJmpAbsInd a16 s)
  | sei : Runs s .sei (execSei s)
  | ply : Runs s .ply (execPly s)
  | tdc : Runs s .tdc (execTdc s)
  | jmpAbsIndX (a16 : Word16) : Runs s (.jmpAbsIndX a16) (execJmpAbsIndX a16 s)
  | brl (r16 : Word16) : Runs s (.brl r16) (execBrl r16 s)
  | dey : Runs s .dey (execDey s)
  | bitImm (v : Word32) : Runs s (.bitImm v) (execBitImm v s)
  | txa : Runs s .txa (execTxa s)
  | phb : Runs s .phb (execPhb s)
  | tya : Runs s .tya (execTya s)
  | txs : Runs s .txs (execTxs s)
  | txy : Runs s .txy (execTxy s)
  | tay : Runs s .tay (execTay s)
  | tax : Runs s .tax (execTax s)
  | plb : Runs s .plb (execPlb s)
  | clv : Runs s .clv (execClv s)
  | tsx : Runs s .tsx (execTsx s)
  | tyx : Runs s .tyx (execTyx s)
  | rep (m8 : Byte) : Runs s (.rep m8) (execRep m8 s)
  | iny : Runs s .iny (execIny s)
  | dex : Runs s .dex (execDex s)
  | wai : Runs s .wai (execWai s)
  | pei (d8 : Byte) : Runs s (.pei d8) (execPei d8 s)
  | cld : Runs s .cld (execCld s)
  | phx : Runs s .phx (execPhx s)
  | stp : Runs s .stp (execStp s)
  | jmlAbsIndLong (a16 : Word16) : Runs s (.jmlAbsIndLong a16) (execJmlAbsIndLong a16 s)
  | sep (m8 : Byte) : Runs s (.sep m8) (execSep m8 s)
  | inx : Runs s .inx (execInx s)
  | nop : Runs s .nop (execNop s)
  | xba : Runs s .xba (execXba s)
  | pea (a16 : Word16) : Runs s (.pea a16) (execPea a16 s)
  | sed : Runs s .sed (execSed s)
  | plx : Runs s .plx (execPlx s)
  | xce : Runs s .xce (execXce s)
  | jsrAbsIndX (a16 : Word16) : Runs s (.jsrAbsIndX a16) (execJsrAbsIndX a16 s)
  | wdm (skip : Byte) : Runs s (.wdm skip) (execWdm skip s)

/-- Every execution is one of the meanings. -/
theorem runs (s : State) : ∀ i : Instr, Runs s i (exec i s)
  | .brk sig => .brk sig
  | .oraIndX d8 => .ora (.mem (.indX d8)) rfl rfl
  | .cop sig => .cop sig
  | .oraSr d8 => .ora (.mem (.sr d8)) rfl rfl
  | .tsbDir d8 => .tsb (.dir d8) rfl rfl
  | .oraDir d8 => .ora (.mem (.dir d8)) rfl rfl
  | .aslDir d8 => .asl (.mem (.dir d8)) rfl rfl
  | .oraIndLong d8 => .ora (.mem (.indLong d8)) rfl rfl
  | .oraImm v => .ora (.imm v) rfl rfl
  | .tsbAbs a16 => .tsb (.abs a16) rfl rfl
  | .oraAbs a16 => .ora (.mem (.abs a16)) rfl rfl
  | .aslAbs a16 => .asl (.mem (.abs a16)) rfl rfl
  | .oraLong a24 => .ora (.mem (.long a24)) rfl rfl
  | .bpl r8 => .bpl r8
  | .oraIndY d8 => .ora (.mem (.indY d8)) rfl rfl
  | .oraInd d8 => .ora (.mem (.ind d8)) rfl rfl
  | .oraSrIndY d8 => .ora (.mem (.srIndY d8)) rfl rfl
  | .trbDir d8 => .trb (.dir d8) rfl rfl
  | .oraDirX d8 => .ora (.mem (.dirX d8)) rfl rfl
  | .aslDirX d8 => .asl (.mem (.dirX d8)) rfl rfl
  | .oraIndLongY d8 => .ora (.mem (.indLongY d8)) rfl rfl
  | .oraAbsY a16 => .ora (.mem (.absY a16)) rfl rfl
  | .trbAbs a16 => .trb (.abs a16) rfl rfl
  | .oraAbsX a16 => .ora (.mem (.absX a16)) rfl rfl
  | .aslAbsX a16 => .asl (.mem (.absX a16)) rfl rfl
  | .oraLongX a24 => .ora (.mem (.longX a24)) rfl rfl
  | .jsrAbs a16 => .jsrAbs a16
  | .andIndX d8 => .and (.mem (.indX d8)) rfl rfl
  | .jsl a24 => .jsl a24
  | .andSr d8 => .and (.mem (.sr d8)) rfl rfl
  | .bitDir d8 => .bit (.dir d8) rfl rfl
  | .andDir d8 => .and (.mem (.dir d8)) rfl rfl
  | .rolDir d8 => .rol (.mem (.dir d8)) rfl rfl
  | .andIndLong d8 => .and (.mem (.indLong d8)) rfl rfl
  | .andImm v => .and (.imm v) rfl rfl
  | .bitAbs a16 => .bit (.abs a16) rfl rfl
  | .andAbs a16 => .and (.mem (.abs a16)) rfl rfl
  | .rolAbs a16 => .rol (.mem (.abs a16)) rfl rfl
  | .andLong a24 => .and (.mem (.long a24)) rfl rfl
  | .bmi r8 => .bmi r8
  | .andIndY d8 => .and (.mem (.indY d8)) rfl rfl
  | .andInd d8 => .and (.mem (.ind d8)) rfl rfl
  | .andSrIndY d8 => .and (.mem (.srIndY d8)) rfl rfl
  | .bitDirX d8 => .bit (.dirX d8) rfl rfl
  | .andDirX d8 => .and (.mem (.dirX d8)) rfl rfl
  | .rolDirX d8 => .rol (.mem (.dirX d8)) rfl rfl
  | .andIndLongY d8 => .and (.mem (.indLongY d8)) rfl rfl
  | .andAbsY a16 => .and (.mem (.absY a16)) rfl rfl
  | .bitAbsX a16 => .bit (.absX a16) rfl rfl
  | .andAbsX a16 => .and (.mem (.absX a16)) rfl rfl
  | .rolAbsX a16 => .rol (.mem (.absX a16)) rfl rfl
  | .andLongX a24 => .and (.mem (.longX a24)) rfl rfl
  | .eorIndX d8 => .eor (.mem (.indX d8)) rfl rfl
  | .eorSr d8 => .eor (.mem (.sr d8)) rfl rfl
  | .mvp dst src => .mvp dst src
  | .eorDir d8 => .eor (.mem (.dir d8)) rfl rfl
  | .lsrDir d8 => .lsr (.mem (.dir d8)) rfl rfl
  | .eorIndLong d8 => .eor (.mem (.indLong d8)) rfl rfl
  | .eorImm v => .eor (.imm v) rfl rfl
  | .jmpAbs a16 => .jmpAbs a16
  | .eorAbs a16 => .eor (.mem (.abs a16)) rfl rfl
  | .lsrAbs a16 => .lsr (.mem (.abs a16)) rfl rfl
  | .eorLong a24 => .eor (.mem (.long a24)) rfl rfl
  | .bvc r8 => .bvc r8
  | .eorIndY d8 => .eor (.mem (.indY d8)) rfl rfl
  | .eorInd d8 => .eor (.mem (.ind d8)) rfl rfl
  | .eorSrIndY d8 => .eor (.mem (.srIndY d8)) rfl rfl
  | .mvn dst src => .mvn dst src
  | .eorDirX d8 => .eor (.mem (.dirX d8)) rfl rfl
  | .lsrDirX d8 => .lsr (.mem (.dirX d8)) rfl rfl
  | .eorIndLongY d8 => .eor (.mem (.indLongY d8)) rfl rfl
  | .eorAbsY a16 => .eor (.mem (.absY a16)) rfl rfl
  | .jmlLong a24 => .jmlLong a24
  | .eorAbsX a16 => .eor (.mem (.absX a16)) rfl rfl
  | .lsrAbsX a16 => .lsr (.mem (.absX a16)) rfl rfl
  | .eorLongX a24 => .eor (.mem (.longX a24)) rfl rfl
  | .adcIndX d8 => .adc (.mem (.indX d8)) rfl rfl
  | .per r16 => .per r16
  | .adcSr d8 => .adc (.mem (.sr d8)) rfl rfl
  | .stzDir d8 => .stz (.dir d8) rfl rfl
  | .adcDir d8 => .adc (.mem (.dir d8)) rfl rfl
  | .rorDir d8 => .ror (.mem (.dir d8)) rfl rfl
  | .adcIndLong d8 => .adc (.mem (.indLong d8)) rfl rfl
  | .adcImm v => .adc (.imm v) rfl rfl
  | .jmpAbsInd a16 => .jmpAbsInd a16
  | .adcAbs a16 => .adc (.mem (.abs a16)) rfl rfl
  | .rorAbs a16 => .ror (.mem (.abs a16)) rfl rfl
  | .adcLong a24 => .adc (.mem (.long a24)) rfl rfl
  | .bvs r8 => .bvs r8
  | .adcIndY d8 => .adc (.mem (.indY d8)) rfl rfl
  | .adcInd d8 => .adc (.mem (.ind d8)) rfl rfl
  | .adcSrIndY d8 => .adc (.mem (.srIndY d8)) rfl rfl
  | .stzDirX d8 => .stz (.dirX d8) rfl rfl
  | .adcDirX d8 => .adc (.mem (.dirX d8)) rfl rfl
  | .rorDirX d8 => .ror (.mem (.dirX d8)) rfl rfl
  | .adcIndLongY d8 => .adc (.mem (.indLongY d8)) rfl rfl
  | .adcAbsY a16 => .adc (.mem (.absY a16)) rfl rfl
  | .jmpAbsIndX a16 => .jmpAbsIndX a16
  | .adcAbsX a16 => .adc (.mem (.absX a16)) rfl rfl
  | .rorAbsX a16 => .ror (.mem (.absX a16)) rfl rfl
  | .adcLongX a24 => .adc (.mem (.longX a24)) rfl rfl
  | .bra r8 => .bra r8
  | .staIndX d8 => .sta (.indX d8) rfl rfl
  | .brl r16 => .brl r16
  | .staSr d8 => .sta (.sr d8) rfl rfl
  | .styDir d8 => .sty (.dir d8) rfl rfl
  | .staDir d8 => .sta (.dir d8) rfl rfl
  | .stxDir d8 => .stx (.dir d8) rfl rfl
  | .staIndLong d8 => .sta (.indLong d8) rfl rfl
  | .bitImm v => .bitImm v
  | .styAbs a16 => .sty (.abs a16) rfl rfl
  | .staAbs a16 => .sta (.abs a16) rfl rfl
  | .stxAbs a16 => .stx (.abs a16) rfl rfl
  | .staLong a24 => .sta (.long a24) rfl rfl
  | .bcc r8 => .bcc r8
  | .staIndY d8 => .sta (.indY d8) rfl rfl
  | .staInd d8 => .sta (.ind d8) rfl rfl
  | .staSrIndY d8 => .sta (.srIndY d8) rfl rfl
  | .styDirX d8 => .sty (.dirX d8) rfl rfl
  | .staDirX d8 => .sta (.dirX d8) rfl rfl
  | .stxDirY d8 => .stx (.dirY d8) rfl rfl
  | .staIndLongY d8 => .sta (.indLongY d8) rfl rfl
  | .staAbsY a16 => .sta (.absY a16) rfl rfl
  | .stzAbs a16 => .stz (.abs a16) rfl rfl
  | .staAbsX a16 => .sta (.absX a16) rfl rfl
  | .stzAbsX a16 => .stz (.absX a16) rfl rfl
  | .staLongX a24 => .sta (.longX a24) rfl rfl
  | .ldyImm v => .ldy (.imm v) rfl rfl
  | .ldaIndX d8 => .lda (.mem (.indX d8)) rfl rfl
  | .ldxImm v => .ldx (.imm v) rfl rfl
  | .ldaSr d8 => .lda (.mem (.sr d8)) rfl rfl
  | .ldyDir d8 => .ldy (.mem (.dir d8)) rfl rfl
  | .ldaDir d8 => .lda (.mem (.dir d8)) rfl rfl
  | .ldxDir d8 => .ldx (.mem (.dir d8)) rfl rfl
  | .ldaIndLong d8 => .lda (.mem (.indLong d8)) rfl rfl
  | .ldaImm v => .lda (.imm v) rfl rfl
  | .ldyAbs a16 => .ldy (.mem (.abs a16)) rfl rfl
  | .ldaAbs a16 => .lda (.mem (.abs a16)) rfl rfl
  | .ldxAbs a16 => .ldx (.mem (.abs a16)) rfl rfl
  | .ldaLong a24 => .lda (.mem (.long a24)) rfl rfl
  | .bcs r8 => .bcs r8
  | .ldaIndY d8 => .lda (.mem (.indY d8)) rfl rfl
  | .ldaInd d8 => .lda (.mem (.ind d8)) rfl rfl
  | .ldaSrIndY d8 => .lda (.mem (.srIndY d8)) rfl rfl
  | .ldyDirX d8 => .ldy (.mem (.dirX d8)) rfl rfl
  | .ldaDirX d8 => .lda (.mem (.dirX d8)) rfl rfl
  | .ldxDirY d8 => .ldx (.mem (.dirY d8)) rfl rfl
  | .ldaIndLongY d8 => .lda (.mem (.indLongY d8)) rfl rfl
  | .ldaAbsY a16 => .lda (.mem (.absY a16)) rfl rfl
  | .ldyAbsX a16 => .ldy (.mem (.absX a16)) rfl rfl
  | .ldaAbsX a16 => .lda (.mem (.absX a16)) rfl rfl
  | .ldxAbsY a16 => .ldx (.mem (.absY a16)) rfl rfl
  | .ldaLongX a24 => .lda (.mem (.longX a24)) rfl rfl
  | .cpyImm v => .cpy (.imm v) rfl rfl
  | .cmpIndX d8 => .cmp (.mem (.indX d8)) rfl rfl
  | .rep m8 => .rep m8
  | .cmpSr d8 => .cmp (.mem (.sr d8)) rfl rfl
  | .cpyDir d8 => .cpy (.mem (.dir d8)) rfl rfl
  | .cmpDir d8 => .cmp (.mem (.dir d8)) rfl rfl
  | .decDir d8 => .dec (.mem (.dir d8)) rfl rfl
  | .cmpIndLong d8 => .cmp (.mem (.indLong d8)) rfl rfl
  | .cmpImm v => .cmp (.imm v) rfl rfl
  | .cpyAbs a16 => .cpy (.mem (.abs a16)) rfl rfl
  | .cmpAbs a16 => .cmp (.mem (.abs a16)) rfl rfl
  | .decAbs a16 => .dec (.mem (.abs a16)) rfl rfl
  | .cmpLong a24 => .cmp (.mem (.long a24)) rfl rfl
  | .bne r8 => .bne r8
  | .cmpIndY d8 => .cmp (.mem (.indY d8)) rfl rfl
  | .cmpInd d8 => .cmp (.mem (.ind d8)) rfl rfl
  | .cmpSrIndY d8 => .cmp (.mem (.srIndY d8)) rfl rfl
  | .pei d8 => .pei d8
  | .cmpDirX d8 => .cmp (.mem (.dirX d8)) rfl rfl
  | .decDirX d8 => .dec (.mem (.dirX d8)) rfl rfl
  | .cmpIndLongY d8 => .cmp (.mem (.indLongY d8)) rfl rfl
  | .cmpAbsY a16 => .cmp (.mem (.absY a16)) rfl rfl
  | .jmlAbsIndLong a16 => .jmlAbsIndLong a16
  | .cmpAbsX a16 => .cmp (.mem (.absX a16)) rfl rfl
  | .decAbsX a16 => .dec (.mem (.absX a16)) rfl rfl
  | .cmpLongX a24 => .cmp (.mem (.longX a24)) rfl rfl
  | .cpxImm v => .cpx (.imm v) rfl rfl
  | .sbcIndX d8 => .sbc (.mem (.indX d8)) rfl rfl
  | .sep m8 => .sep m8
  | .sbcSr d8 => .sbc (.mem (.sr d8)) rfl rfl
  | .cpxDir d8 => .cpx (.mem (.dir d8)) rfl rfl
  | .sbcDir d8 => .sbc (.mem (.dir d8)) rfl rfl
  | .incDir d8 => .inc (.mem (.dir d8)) rfl rfl
  | .sbcIndLong d8 => .sbc (.mem (.indLong d8)) rfl rfl
  | .sbcImm v => .sbc (.imm v) rfl rfl
  | .cpxAbs a16 => .cpx (.mem (.abs a16)) rfl rfl
  | .sbcAbs a16 => .sbc (.mem (.abs a16)) rfl rfl
  | .incAbs a16 => .inc (.mem (.abs a16)) rfl rfl
  | .sbcLong a24 => .sbc (.mem (.long a24)) rfl rfl
  | .beq r8 => .beq r8
  | .sbcIndY d8 => .sbc (.mem (.indY d8)) rfl rfl
  | .sbcInd d8 => .sbc (.mem (.ind d8)) rfl rfl
  | .sbcSrIndY d8 => .sbc (.mem (.srIndY d8)) rfl rfl
  | .pea a16 => .pea a16
  | .sbcDirX d8 => .sbc (.mem (.dirX d8)) rfl rfl
  | .incDirX d8 => .inc (.mem (.dirX d8)) rfl rfl
  | .sbcIndLongY d8 => .sbc (.mem (.indLongY d8)) rfl rfl
  | .sbcAbsY a16 => .sbc (.mem (.absY a16)) rfl rfl
  | .jsrAbsIndX a16 => .jsrAbsIndX a16
  | .sbcAbsX a16 => .sbc (.mem (.absX a16)) rfl rfl
  | .incAbsX a16 => .inc (.mem (.absX a16)) rfl rfl
  | .sbcLongX a24 => .sbc (.mem (.longX a24)) rfl rfl
  | .wdm skip => .wdm skip
  | .php => .php
  | .aslAcc => .asl .acc rfl rfl
  | .phd => .phd
  | .clc => .clc
  | .incAcc => .inc .acc rfl rfl
  | .tcs => .tcs
  | .plp => .plp
  | .rolAcc => .rol .acc rfl rfl
  | .pld => .pld
  | .sec => .sec
  | .decAcc => .dec .acc rfl rfl
  | .tsc => .tsc
  | .rti => .rti
  | .xfe => .xfe
  | .pha => .pha
  | .lsrAcc => .lsr .acc rfl rfl
  | .phk => .phk
  | .cli => .cli
  | .phy => .phy
  | .tcd => .tcd
  | .rts => .rts
  | .pla => .pla
  | .rorAcc => .ror .acc rfl rfl
  | .rtl => .rtl
  | .sei => .sei
  | .ply => .ply
  | .tdc => .tdc
  | .dey => .dey
  | .txa => .txa
  | .phb => .phb
  | .tya => .tya
  | .txs => .txs
  | .txy => .txy
  | .tay => .tay
  | .tax => .tax
  | .plb => .plb
  | .clv => .clv
  | .tsx => .tsx
  | .tyx => .tyx
  | .iny => .iny
  | .dex => .dex
  | .wai => .wai
  | .cld => .cld
  | .phx => .phx
  | .stp => .stp
  | .inx => .inx
  | .nop => .nop
  | .xba => .xba
  | .sed => .sed
  | .plx => .plx
  | .xce => .xce

end Sys2Proof.Machine
end

