-- ==== Sys2Proof/Laws/Steps.lean ====
section
/-! SUPPORT. What a step can do, said once: the four ways it answers a next state, and what the sample at
its end leaves alone. -/

namespace Sys2Proof.Machine

/-- A sample writes nothing to memory (70_reset_and_hazards.md R391). -/
@[simp] theorem mem_latchPins (s : State) (pin : PinSample) : (s.latchPins pin).mem = s.mem := by
  unfold State.latchPins
  split <;> rfl

@[simp] theorem mem_sample (s : State) : s.sample.mem = s.mem := by
  unfold State.sample
  split
  · rfl
  · exact mem_latchPins _ _

@[simp] theorem mem_sampleStopped (s : State) : s.sampleStopped.mem = s.mem := by
  unfold State.sampleStopped
  split
  · rfl
  · split <;> rfl

/-- A step that answers a next state is a sample of a stopped processor, an interrupt sequence, a tick of a
wait, or one instruction (00_scope.md R7, 60_exceptions.md R346, R366, R367). -/
theorem step_cases {s t : State} (h : step s = .next t) :
    s.stopped = true ∧ t = s.sampleStopped ∨
    (∃ k, s.stopped = false ∧ s.interruptDue = some k ∧ t = (s.takeInterrupt k s.pc).sample) ∨
    (s.stopped = false ∧ s.interruptDue = none ∧ s.waiting = true ∧ t = s.waitTick.sample) ∨
    (s.stopped = false ∧ s.interruptDue = none ∧ s.waiting = false ∧
      ∃ u, exec s.fetchInstr s.latched = .next u ∧ t = s.latched.sampleAfter u) := by
  unfold step at h
  cases hs : s.stopped with
  | true => exact .inl ⟨rfl, by simpa [hs] using h.symm⟩
  | false =>
    cases hd : s.interruptDue with
    | some k => exact .inr (.inl ⟨k, rfl, rfl, by simpa [hs, hd] using h.symm⟩)
    | none =>
      cases hw : s.waiting with
      | true => exact .inr (.inr (.inl ⟨rfl, rfl, rfl, by simpa [hs, hd, hw] using h.symm⟩))
      | false =>
        simp only [hs, hd, hw, Bool.false_eq_true, if_false, State.runInstruction] at h
        cases he : exec s.fetchInstr s.latched with
        | next u =>
          rw [he] at h
          exact .inr (.inr (.inr ⟨rfl, rfl, rfl, u, rfl, (Host.Outcome.next.inj h).symm⟩))
        | fault f => cases f
        | refused r => simp [he] at h

end Sys2Proof.Machine
end

