-- ==== Sys2Proof/Machine/Pins.lean ====
section
/-! DEFINITION. The output pins whose level is a function of the state between instructions
(spec 10_state.md R46), the pins during reset (R47), and the length of Memory Lock (20_memory.md R87).
The pins that change within an instruction (VDA, VPA, VP-, R/W-, ML-) are bus-cycle behaviour, which
spec 00_scope.md section 4 leaves out. -/

namespace Sys2Proof.Machine

/-- The E8/E16 output "reflects the state of the Emulation E8 and E16 mode flags" (10_state.md R36). -/
def State.pinEmulation (s : State) : Bool × Bool := (s.e8, s.e16)

/-- The M/X output: flag M at one clock edge and flag X at the other (R46). -/
def State.pinModeSelect (s : State) : Bool × Bool := (s.flag .m, s.flag .x)

/-- RDY is pulled low by the processor after WAI (60_exceptions.md R366); STP has no effect on it
(R367). -/
def State.pinReadyPulledLow (s : State) : Bool := s.waiting

/-- How many cycles ML- is low in a read-modify-write of a width: three, five or nine (20_memory.md
R87, 70_reset_and_hazards.md R407). -/
def memoryLockCycles (w : Width) : Nat := 2 * w.bytes + 1

/-- The output signals during reset (10_state.md R47). -/
structure ResetSignals where
  e8 : Bool
  e16 : Bool
  mx : Bool
  readWrite : Bool
  vda : Bool
  vpa : Bool
  vectorPull : Bool
  sync : Bool
deriving DecidableEq, Repr

/-- The levels of the reset table's "Signals" block (R47). -/
def resetSignals : ResetSignals where
  e8 := true
  e16 := true
  mx := true
  readWrite := true
  vda := false
  vpa := false
  vectorPull := true
  sync := false

end Sys2Proof.Machine
end

