-- ==== Sys2Proof/Tests/Slice0.lean ====
section
/-! SUPPORT. Small tests: the smoke test of well-formedness, the decoding of words written out from the
encodings of the spec, one step on small states with the results of 95_test_vectors.md, and a state
that meets the hypotheses of each statement. -/

namespace Sys2Proof.Tests

open Sys2Proof.Machine Sys2Proof.Claims

/-! ### Well-formedness -/

/-- An accumulator immediate of 16 bits has no encoding at `mw = 8` (30_encoding.md R102). -/
theorem test_wellFormed_refuses_wide_accumulator_immediate :
    WellFormed { mw := .w8, xw := .w32 } (.ldaImm 0x100#32) = false ∧
      WellFormed { mw := .w16, xw := .w8 } (.ldaImm 0x100#32) = true := by decide

/-- An index immediate of 17 bits has no encoding at `xw = 16` (R102). -/
theorem test_wellFormed_refuses_wide_index_immediate :
    WellFormed { mw := .w32, xw := .w16 } (.ldxImm 0x10000#32) = false ∧
      WellFormed { mw := .w8, xw := .w32 } (.ldxImm 0x10000#32) = true := by decide

/-- With `XFE_OPCODE = 0x42` WDM has no opcode, and without the parameter XFE has none (R106). -/
theorem test_wellFormed_refuses_displaced_rows :
    WellFormed { mw := .w8, xw := .w8 } (.wdm 0x00#8) = false ∧
      WellFormedWith none { mw := .w8, xw := .w8 } .xfe = false ∧
      WellFormedWith none { mw := .w8, xw := .w8 } (.wdm 0x00#8) = true ∧
      WellFormedWith (some 0xEA#8) { mw := .w8, xw := .w8 } .nop = false := by decide

/-! ### Decoding: the sixteen rows of the opcode matrix, each word with operand bytes 34 12 56 (R103,
R104) -/

/-- The instruction of an opcode followed by `34 12 56 78`, at `mw = 16` and `xw = 8`. -/
def decoded (op : Byte) : Option Instr :=
  match decode { mw := .w16, xw := .w8 } [op, 0x34#8, 0x12#8, 0x56#8, 0x78#8] with
  | .ok (i, _) => some i
  | .error _ => none

theorem test_decode_row_0 :
    [0x00#8, 0x01#8, 0x02#8, 0x03#8, 0x04#8, 0x05#8, 0x06#8, 0x07#8,
      0x08#8, 0x09#8, 0x0A#8, 0x0B#8, 0x0C#8, 0x0D#8, 0x0E#8, 0x0F#8].map decoded =
      ([.brk 0x34#8, .oraIndX 0x34#8, .cop 0x34#8, .oraSr 0x34#8, .tsbDir 0x34#8,
        .oraDir 0x34#8, .aslDir 0x34#8, .oraIndLong 0x34#8, .php, .oraImm 0x1234#32,
        .aslAcc, .phd, .tsbAbs 0x1234#16, .oraAbs 0x1234#16, .aslAbs 0x1234#16,
        .oraLong 0x561234#24].map some : List (Option Instr)) := by decide

theorem test_decode_row_1 :
    [0x10#8, 0x11#8, 0x12#8, 0x13#8, 0x14#8, 0x15#8, 0x16#8, 0x17#8,
      0x18#8, 0x19#8, 0x1A#8, 0x1B#8, 0x1C#8, 0x1D#8, 0x1E#8, 0x1F#8].map decoded =
      ([.bpl 0x34#8, .oraIndY 0x34#8, .oraInd 0x34#8, .oraSrIndY 0x34#8, .trbDir 0x34#8,
        .oraDirX 0x34#8, .aslDirX 0x34#8, .oraIndLongY 0x34#8, .clc, .oraAbsY 0x1234#16,
        .incAcc, .tcs, .trbAbs 0x1234#16, .oraAbsX 0x1234#16, .aslAbsX 0x1234#16,
        .oraLongX 0x561234#24].map some : List (Option Instr)) := by decide

theorem test_decode_row_2 :
    [0x20#8, 0x21#8, 0x22#8, 0x23#8, 0x24#8, 0x25#8, 0x26#8, 0x27#8,
      0x28#8, 0x29#8, 0x2A#8, 0x2B#8, 0x2C#8, 0x2D#8, 0x2E#8, 0x2F#8].map decoded =
      ([.jsrAbs 0x1234#16, .andIndX 0x34#8, .jsl 0x561234#24, .andSr 0x34#8,
        .bitDir 0x34#8, .andDir 0x34#8, .rolDir 0x34#8, .andIndLong 0x34#8, .plp,
        .andImm 0x1234#32, .rolAcc, .pld, .bitAbs 0x1234#16, .andAbs 0x1234#16,
        .rolAbs 0x1234#16, .andLong 0x561234#24].map some : List (Option Instr)) := by decide

theorem test_decode_row_3 :
    [0x30#8, 0x31#8, 0x32#8, 0x33#8, 0x34#8, 0x35#8, 0x36#8, 0x37#8,
      0x38#8, 0x39#8, 0x3A#8, 0x3B#8, 0x3C#8, 0x3D#8, 0x3E#8, 0x3F#8].map decoded =
      ([.bmi 0x34#8, .andIndY 0x34#8, .andInd 0x34#8, .andSrIndY 0x34#8, .bitDirX 0x34#8,
        .andDirX 0x34#8, .rolDirX 0x34#8, .andIndLongY 0x34#8, .sec, .andAbsY 0x1234#16,
        .decAcc, .tsc, .bitAbsX 0x1234#16, .andAbsX 0x1234#16, .rolAbsX 0x1234#16,
        .andLongX 0x561234#24].map some : List (Option Instr)) := by decide

theorem test_decode_row_4 :
    [0x40#8, 0x41#8, 0x42#8, 0x43#8, 0x44#8, 0x45#8, 0x46#8, 0x47#8,
      0x48#8, 0x49#8, 0x4A#8, 0x4B#8, 0x4C#8, 0x4D#8, 0x4E#8, 0x4F#8].map decoded =
      ([.rti, .eorIndX 0x34#8, .xfe, .eorSr 0x34#8, .mvp 0x34#8 0x12#8, .eorDir 0x34#8,
        .lsrDir 0x34#8, .eorIndLong 0x34#8, .pha, .eorImm 0x1234#32, .lsrAcc, .phk,
        .jmpAbs 0x1234#16, .eorAbs 0x1234#16, .lsrAbs 0x1234#16, .eorLong 0x561234#24].map some : List (Option Instr)) := by decide

theorem test_decode_row_5 :
    [0x50#8, 0x51#8, 0x52#8, 0x53#8, 0x54#8, 0x55#8, 0x56#8, 0x57#8,
      0x58#8, 0x59#8, 0x5A#8, 0x5B#8, 0x5C#8, 0x5D#8, 0x5E#8, 0x5F#8].map decoded =
      ([.bvc 0x34#8, .eorIndY 0x34#8, .eorInd 0x34#8, .eorSrIndY 0x34#8,
        .mvn 0x34#8 0x12#8, .eorDirX 0x34#8, .lsrDirX 0x34#8, .eorIndLongY 0x34#8, .cli,
        .eorAbsY 0x1234#16, .phy, .tcd, .jmlLong 0x561234#24, .eorAbsX 0x1234#16,
        .lsrAbsX 0x1234#16, .eorLongX 0x561234#24].map some : List (Option Instr)) := by decide

theorem test_decode_row_6 :
    [0x60#8, 0x61#8, 0x62#8, 0x63#8, 0x64#8, 0x65#8, 0x66#8, 0x67#8,
      0x68#8, 0x69#8, 0x6A#8, 0x6B#8, 0x6C#8, 0x6D#8, 0x6E#8, 0x6F#8].map decoded =
      ([.rts, .adcIndX 0x34#8, .per 0x1234#16, .adcSr 0x34#8, .stzDir 0x34#8,
        .adcDir 0x34#8, .rorDir 0x34#8, .adcIndLong 0x34#8, .pla, .adcImm 0x1234#32,
        .rorAcc, .rtl, .jmpAbsInd 0x1234#16, .adcAbs 0x1234#16, .rorAbs 0x1234#16,
        .adcLong 0x561234#24].map some : List (Option Instr)) := by decide

theorem test_decode_row_7 :
    [0x70#8, 0x71#8, 0x72#8, 0x73#8, 0x74#8, 0x75#8, 0x76#8, 0x77#8,
      0x78#8, 0x79#8, 0x7A#8, 0x7B#8, 0x7C#8, 0x7D#8, 0x7E#8, 0x7F#8].map decoded =
      ([.bvs 0x34#8, .adcIndY 0x34#8, .adcInd 0x34#8, .adcSrIndY 0x34#8, .stzDirX 0x34#8,
        .adcDirX 0x34#8, .rorDirX 0x34#8, .adcIndLongY 0x34#8, .sei, .adcAbsY 0x1234#16,
        .ply, .tdc, .jmpAbsIndX 0x1234#16, .adcAbsX 0x1234#16, .rorAbsX 0x1234#16,
        .adcLongX 0x561234#24].map some : List (Option Instr)) := by decide

theorem test_decode_row_8 :
    [0x80#8, 0x81#8, 0x82#8, 0x83#8, 0x84#8, 0x85#8, 0x86#8, 0x87#8,
      0x88#8, 0x89#8, 0x8A#8, 0x8B#8, 0x8C#8, 0x8D#8, 0x8E#8, 0x8F#8].map decoded =
      ([.bra 0x34#8, .staIndX 0x34#8, .brl 0x1234#16, .staSr 0x34#8, .styDir 0x34#8,
        .staDir 0x34#8, .stxDir 0x34#8, .staIndLong 0x34#8, .dey, .bitImm 0x1234#32, .txa,
        .phb, .styAbs 0x1234#16, .staAbs 0x1234#16, .stxAbs 0x1234#16, .staLong 0x561234#24].map some : List (Option Instr)) := by decide

theorem test_decode_row_9 :
    [0x90#8, 0x91#8, 0x92#8, 0x93#8, 0x94#8, 0x95#8, 0x96#8, 0x97#8,
      0x98#8, 0x99#8, 0x9A#8, 0x9B#8, 0x9C#8, 0x9D#8, 0x9E#8, 0x9F#8].map decoded =
      ([.bcc 0x34#8, .staIndY 0x34#8, .staInd 0x34#8, .staSrIndY 0x34#8, .styDirX 0x34#8,
        .staDirX 0x34#8, .stxDirY 0x34#8, .staIndLongY 0x34#8, .tya, .staAbsY 0x1234#16,
        .txs, .txy, .stzAbs 0x1234#16, .staAbsX 0x1234#16, .stzAbsX 0x1234#16,
        .staLongX 0x561234#24].map some : List (Option Instr)) := by decide

theorem test_decode_row_A :
    [0xA0#8, 0xA1#8, 0xA2#8, 0xA3#8, 0xA4#8, 0xA5#8, 0xA6#8, 0xA7#8,
      0xA8#8, 0xA9#8, 0xAA#8, 0xAB#8, 0xAC#8, 0xAD#8, 0xAE#8, 0xAF#8].map decoded =
      ([.ldyImm 0x34#32, .ldaIndX 0x34#8, .ldxImm 0x34#32, .ldaSr 0x34#8, .ldyDir 0x34#8,
        .ldaDir 0x34#8, .ldxDir 0x34#8, .ldaIndLong 0x34#8, .tay, .ldaImm 0x1234#32, .tax,
        .plb, .ldyAbs 0x1234#16, .ldaAbs 0x1234#16, .ldxAbs 0x1234#16, .ldaLong 0x561234#24].map some : List (Option Instr)) := by decide

theorem test_decode_row_B :
    [0xB0#8, 0xB1#8, 0xB2#8, 0xB3#8, 0xB4#8, 0xB5#8, 0xB6#8, 0xB7#8,
      0xB8#8, 0xB9#8, 0xBA#8, 0xBB#8, 0xBC#8, 0xBD#8, 0xBE#8, 0xBF#8].map decoded =
      ([.bcs 0x34#8, .ldaIndY 0x34#8, .ldaInd 0x34#8, .ldaSrIndY 0x34#8, .ldyDirX 0x34#8,
        .ldaDirX 0x34#8, .ldxDirY 0x34#8, .ldaIndLongY 0x34#8, .clv, .ldaAbsY 0x1234#16,
        .tsx, .tyx, .ldyAbsX 0x1234#16, .ldaAbsX 0x1234#16, .ldxAbsY 0x1234#16,
        .ldaLongX 0x561234#24].map some : List (Option Instr)) := by decide

theorem test_decode_row_C :
    [0xC0#8, 0xC1#8, 0xC2#8, 0xC3#8, 0xC4#8, 0xC5#8, 0xC6#8, 0xC7#8,
      0xC8#8, 0xC9#8, 0xCA#8, 0xCB#8, 0xCC#8, 0xCD#8, 0xCE#8, 0xCF#8].map decoded =
      ([.cpyImm 0x34#32, .cmpIndX 0x34#8, .rep 0x34#8, .cmpSr 0x34#8, .cpyDir 0x34#8,
        .cmpDir 0x34#8, .decDir 0x34#8, .cmpIndLong 0x34#8, .iny, .cmpImm 0x1234#32, .dex,
        .wai, .cpyAbs 0x1234#16, .cmpAbs 0x1234#16, .decAbs 0x1234#16, .cmpLong 0x561234#24].map some : List (Option Instr)) := by decide

theorem test_decode_row_D :
    [0xD0#8, 0xD1#8, 0xD2#8, 0xD3#8, 0xD4#8, 0xD5#8, 0xD6#8, 0xD7#8,
      0xD8#8, 0xD9#8, 0xDA#8, 0xDB#8, 0xDC#8, 0xDD#8, 0xDE#8, 0xDF#8].map decoded =
      ([.bne 0x34#8, .cmpIndY 0x34#8, .cmpInd 0x34#8, .cmpSrIndY 0x34#8, .pei 0x34#8,
        .cmpDirX 0x34#8, .decDirX 0x34#8, .cmpIndLongY 0x34#8, .cld, .cmpAbsY 0x1234#16,
        .phx, .stp, .jmlAbsIndLong 0x1234#16, .cmpAbsX 0x1234#16, .decAbsX 0x1234#16,
        .cmpLongX 0x561234#24].map some : List (Option Instr)) := by decide

theorem test_decode_row_E :
    [0xE0#8, 0xE1#8, 0xE2#8, 0xE3#8, 0xE4#8, 0xE5#8, 0xE6#8, 0xE7#8,
      0xE8#8, 0xE9#8, 0xEA#8, 0xEB#8, 0xEC#8, 0xED#8, 0xEE#8, 0xEF#8].map decoded =
      ([.cpxImm 0x34#32, .sbcIndX 0x34#8, .sep 0x34#8, .sbcSr 0x34#8, .cpxDir 0x34#8,
        .sbcDir 0x34#8, .incDir 0x34#8, .sbcIndLong 0x34#8, .inx, .sbcImm 0x1234#32, .nop,
        .xba, .cpxAbs 0x1234#16, .sbcAbs 0x1234#16, .incAbs 0x1234#16, .sbcLong 0x561234#24].map some : List (Option Instr)) := by decide

theorem test_decode_row_F :
    [0xF0#8, 0xF1#8, 0xF2#8, 0xF3#8, 0xF4#8, 0xF5#8, 0xF6#8, 0xF7#8,
      0xF8#8, 0xF9#8, 0xFA#8, 0xFB#8, 0xFC#8, 0xFD#8, 0xFE#8, 0xFF#8].map decoded =
      ([.beq 0x34#8, .sbcIndY 0x34#8, .sbcInd 0x34#8, .sbcSrIndY 0x34#8, .pea 0x1234#16,
        .sbcDirX 0x34#8, .incDirX 0x34#8, .sbcIndLongY 0x34#8, .sed, .sbcAbsY 0x1234#16,
        .plx, .xce, .jsrAbsIndX 0x1234#16, .sbcAbsX 0x1234#16, .incAbsX 0x1234#16,
        .sbcLongX 0x561234#24].map some : List (Option Instr)) := by decide

/-- WDM stands in cell 42 when `XFE_OPCODE` is not 0x42 (R106). -/
theorem test_decode_wdm :
    decodeOpWith none Widths.atReset 0x42#8 (.ofRest [0x34#8]) = .wdm 0x34#8 := by decide

/-- XFE at another opcode takes it over (R106). -/
theorem test_decode_xfe_elsewhere :
    decodeOpWith (some 0xEA#8) Widths.atReset 0xEA#8 (.ofRest []) = .xfe := by decide

/-- A list that ends before the instruction does is refused (R102). -/
theorem test_decode_truncated :
    decode Widths.atReset [0xAD#8, 0x00#8] = .error .truncated ∧
      decode Widths.atReset [] = .error .empty := by
  constructor <;> rfl

/-- The host's word of `LDA $1234`, its first byte in the low bits. -/
theorem test_decodeTableWord : decodeTableWord 24 0x1234AD = some (.ldaAbs 0x1234#16) := by decide

/-! ### One step: the vectors of 95_test_vectors.md, by their numbers there -/

/-- The state of a vector: the opcode at 00:8000 and S at 01FF. -/
def start (e16 e8 : Bool) (p : Byte) : State :=
  { State.reset with e16 := e16, e8 := e8, p := p, pc := 0x8000#16, sp := 0x01FF#16 }

/-- EMU8, EMU16, NATIVE/16 and NATIVE/32 with a value of P. -/
def emu8 (p : Byte) : State := start true true p
@[inherit_doc emu8] def emu16 (p : Byte) : State := start true false p
@[inherit_doc emu8] def nat16 (p : Byte) : State := start false false p
@[inherit_doc emu8] def nat32 (p : Byte) : State := start false true p

/-- What a projection shows after one step of the code at `PBR:PC`. -/
def after {α : Type} (s : State) (code : List Byte) (f : State → α) : Option α :=
  match step (s.placeBytes 0 code) with
  | .next t => some (f t)
  | _ => none

/-- The bytes at addresses. -/
def bytes (t : State) (addrs : List Nat) : List Byte := addrs.map t.readByte

/-- L11: operand bytes from 00:FFFF and 00:0000. -/
theorem test_fetch_wraps_in_bank :
    after { emu8 0x30#8 with pc := 0xFFFE#16 } [0xAD#8, 0x00#8, 0x20#8] (·.pc) =
      some 0x0001#16 := by decide

/-- L3: 5 bytes. -/
theorem test_ldaImm_native32 :
    after (nat32 0x10#8) [0xA9#8, 0x34#8, 0x12#8, 0xDB#8, 0x00#8] (fun t => (t.a, t.pc)) =
      some (0x00DB1234#32, 0x8005#16) := by decide

/-- T1: an 8-bit load keeps `A[15:8]`. -/
theorem test_ldaImm_emu8 : ∃ u : BitVec 16,
    after { emu8 0x30#8 with a := 0x1234#32 } [0xA9#8, 0x80#8] (fun t => (t.a, t.p)) =
      some ((u ++ 0x12#8 : BitVec 24) ++ 0x80#8, 0xB0#8) := ⟨_, rfl⟩

/-- T5: an indexed operand runs into the next bank. -/
theorem test_ldaAbsX : ∃ u : BitVec 24,
    after { emu16 0x20#8 with x := 0x10#32, dbr := 0x01#8, mem := [(0x020008, 0x55#8)] }
      [0xBD#8, 0xF8#8, 0xFF#8] (·.a) = some (u ++ 0x55#8) := ⟨_, rfl⟩

/-- T6: `d,x` stays in its page in EMU8 with `D[7:0] = 0`. -/
theorem test_ldaDirX_page : ∃ u : BitVec 24,
    after { emu8 0x30#8 with x := 0x02#32, mem := [(0x000001, 0xAA#8)] } [0xB5#8, 0xFF#8]
      (fun t => (t.a, t.p)) = some (u ++ 0xAA#8, 0xB0#8) := ⟨_, rfl⟩

/-- T8: outside it, it wraps in Bank 0. -/
theorem test_ldaDirX_bank : ∃ u : BitVec 24,
    after { emu16 0x20#8 with x := 0x100#32, d := 0xFF80#16, mem := [(0x000100, 0x5A#8)] }
      [0xB5#8, 0x80#8] (·.a) = some (u ++ 0x5A#8) := ⟨_, rfl⟩

/-- T9. -/
theorem test_ldaIndY : ∃ u : BitVec 24,
    after { emu8 0x30#8 with
      y := 0x05#32, mem := [(0x10, 0x00#8), (0x11, 0x30#8), (0x3005, 0x66#8)] }
      [0xB1#8, 0x10#8] (·.a) = some (u ++ 0x66#8) := ⟨_, rfl⟩

/-- T10: a pointer wraps in its page. -/
theorem test_ldaInd_page : ∃ u : BitVec 24,
    after { emu8 0x30#8 with
      dbr := 0x02#8, mem := [(0x00, 0x12#8), (0xFF, 0x34#8), (0x021234, 0x99#8)] }
      [0xB2#8, 0xFF#8] (·.a) = some (u ++ 0x99#8) := ⟨_, rfl⟩

/-- T11. -/
theorem test_ldaIndLongY : ∃ u : BitVec 24,
    after { emu16 0x20#8 with
      y := 0x01#32, d := 0x0100#16
      mem := [(0x120, 0x00#8), (0x121, 0x80#8), (0x122, 0x7E#8), (0x7E8001, 0x11#8)] }
      [0xB7#8, 0x20#8] (·.a) = some (u ++ 0x11#8) := ⟨_, rfl⟩

/-- T13. -/
theorem test_ldaSrIndY : ∃ u : BitVec 24,
    after { emu16 0x20#8 with
      y := 0x03#32, dbr := 0x02#8, sp := 0x01FD#16
      mem := [(0x1FE, 0x00#8), (0x1FF, 0x40#8), (0x024003, 0x21#8)] }
      [0xB3#8, 0x01#8] (·.a) = some (u ++ 0x21#8) := ⟨_, rfl⟩

/-- T14. -/
theorem test_ldaIndX : ∃ u : BitVec 24,
    after { emu16 0x20#8 with
      x := 0x04#32, mem := [(0x14, 0x00#8), (0x15, 0x50#8), (0x5000, 0x07#8)] }
      [0xA1#8, 0x10#8] (·.a) = some (u ++ 0x07#8) := ⟨_, rfl⟩

/-- T15: a store runs into the next bank. -/
theorem test_staAbs :
    after { emu16 0x10#8 with a := 0xBEEF#32, dbr := 0x7E#8 } [0x8D#8, 0xFF#8, 0xFF#8]
      (bytes · [0x7EFFFF, 0x7F0000]) = some [0xEF#8, 0xBE#8] := by decide

/-- T16: a direct store wraps in Bank 0. -/
theorem test_staDir :
    after { emu16 0x10#8 with a := 0xBEEF#32, d := 0xFF00#16 } [0x85#8, 0xFF#8]
      (bytes · [0x00FFFF, 0x000000]) = some [0xEF#8, 0xBE#8] := by decide

/-- T18. -/
theorem test_stzDir :
    after { emu16 0xC1#8 with d := 0x0100#16 } [0x64#8, 0x20#8]
      (fun t => (bytes t [0x120, 0x121], t.p)) = some ([0x00#8, 0x00#8], 0xC1#8) := by decide

/-- T19. -/
theorem test_stxAbs :
    after { nat16 0x20#8 with x := 0xCAFEBABE#32 } [0x8E#8, 0x00#8, 0x30#8]
      (bytes · [0x3000, 0x3001, 0x3002, 0x3003]) =
      some [0xBE#8, 0xBA#8, 0xFE#8, 0xCA#8] := by decide

/-- R176: STY stores at `xw`, here one byte. -/
theorem test_styAbs :
    after { emu16 0x10#8 with y := 0x12#32 } [0x8C#8, 0x00#8, 0x30#8]
      (bytes · [0x3000, 0x3001]) = some [0x12#8, 0xFF#8] := by decide

/-- L6. -/
theorem test_ldxImm :
    after (nat16 0x00#8) [0xA2#8, 0x78#8, 0x56#8, 0x34#8, 0x12#8] (fun t => (t.x, t.pc)) =
      some (0x12345678#32, 0x8005#16) := by decide

/-- T34: `LDX $FF,Y` stays in its page. -/
theorem test_ldxDirY :
    after { emu8 0x30#8 with y := 0x01#32, mem := [(0x000000, 0x3C#8)] } [0xB6#8, 0xFF#8] (·.x) =
      some 0x3C#32 := by decide

/-- R173, R23: an 8-bit LDY clears the upper bytes of Y. -/
theorem test_ldyImm :
    after { emu16 0x30#8 with y := 0x00#32 } [0xA0#8, 0x80#8] (fun t => (t.y, t.p)) =
      some (0x80#32, 0xB0#8) := by decide

/-- T20: the hidden byte of A is copied. -/
theorem test_tax : ∃ u : BitVec 16,
    after { emu16 0x20#8 with a := 0x12FF#32 } [0xAA#8] (fun t => (t.x, t.p)) =
      some (u ++ 0x12FF#16, 0x20#8) := ⟨_, rfl⟩

/-- T22: an 8-bit write of A from a 16-bit X. -/
theorem test_txa : ∃ u : BitVec 16,
    after { emu16 0x20#8 with a := 0x5500#32, x := 0x1280#32 } [0x8A#8] (fun t => (t.a, t.p)) =
      some ((u ++ 0x55#8 : BitVec 24) ++ 0x80#8, 0xA0#8) := ⟨_, rfl⟩

/-- T23: in EMU8 the high byte of S stays 01, and no flag is written. -/
theorem test_txs :
    after { emu8 0x30#8 with x := 0xFF#32 } [0x9A#8] (fun t => (t.sp, t.p)) =
      some (0x01FF#16, 0x30#8) := by decide

/-- T25. -/
theorem test_tsx : after (nat16 0x20#8) [0xBA#8] (fun t => (t.x, t.p)) =
    some (0x000001FF#32, 0x20#8) := by decide

/-- T27: 16 bits although `mw = 8`. -/
theorem test_tcd : after { emu16 0x30#8 with a := 0x2000#32 } [0x5B#8] (fun t => (t.d, t.p)) =
    some (0x2000#16, 0x30#8) := by decide

/-- T28. -/
theorem test_tdc : ∃ u : BitVec 16,
    after { emu8 0x30#8 with d := 0x8000#16 } [0x7B#8] (fun t => (t.a, t.p)) =
      some (u ++ 0x8000#16, 0xB0#8) := ⟨_, rfl⟩

/-- T30. -/
theorem test_tcs : after { emu8 0x30#8 with a := 0x1FFF#32, sp := 0x0180#16 } [0x1B#8] (·.sp) =
    some 0x01FF#16 := by decide

/-- T32: flags from the new low byte. -/
theorem test_xba : ∃ u : BitVec 16,
    after { emu16 0x30#8 with a := 0x0080#32 } [0xEB#8] (fun t => (t.a, t.p)) =
      some (u ++ 0x8000#16, 0x32#8) := ⟨_, rfl⟩

/-- AD1. -/
theorem test_adcImm_w8 : ∃ u : BitVec 24,
    after { emu8 0x30#8 with a := 0x7F#32 } [0x69#8, 0x01#8] (fun t => (t.a, t.p)) =
      some (u ++ 0x80#8, 0xF0#8) := ⟨_, rfl⟩

/-- DC5: decimal ADC of 32 bits, with V left open. -/
theorem test_adc_decimal :
    (fun r : AluResult 32 => (r.value, r.n, r.z, r.c)) (adc 0 true 0x99999999#32 0x01#32 false) =
      (0x00000000#32, false, true, true) := by decide

/-- SB3. -/
theorem test_sbcImm_w8 : ∃ u : BitVec 24,
    after { emu8 0x31#8 with a := 0x80#32 } [0xE9#8, 0x01#8] (fun t => (t.a, t.p)) =
      some (u ++ 0x7F#8, 0x71#8) := ⟨_, rfl⟩

/-- DC6: decimal SBC of 8 bits with a borrow. -/
theorem test_sbc_decimal :
    (fun r : AluResult 8 => (r.value, r.n, r.z, r.c)) (sbc 0 true 0x00#8 0x01#8 true) =
      (0x99#8, true, false, false) := by decide

/-- CP4: the decimal flag and the old carry are ignored. -/
theorem test_cmpImm :
    after { emu8 0x38#8 with a := 0x10#32 } [0xC9#8, 0x09#8] (·.p) = some 0x39#8 := by decide

/-- CP6. -/
theorem test_cpxImm :
    after { nat16 0x20#8 with x := 0xFFFFFFFF#32 } [0xE0#8, 0x00#8, 0x00#8, 0x00#8, 0x00#8]
      (fun t => (t.p, t.pc)) = some (0xA1#8, 0x8005#16) := by decide

/-- CP5. -/
theorem test_cpyImm :
    after { emu16 0x20#8 with y := 0x00#32 } [0xC0#8, 0x01#8, 0x00#8] (·.p) = some 0xA0#8 := by decide

/-- LG2. -/
theorem test_andImm : ∃ u : BitVec 16,
    after { emu16 0x10#8 with a := 0x00FF#32 } [0x29#8, 0x00#8, 0xFF#8] (fun t => (t.a, t.p)) =
      some (u ++ 0x0000#16, 0x12#8) := ⟨_, rfl⟩

/-- LG4. -/
theorem test_oraImm :
    after { nat32 0x10#8 with a := 0x0000FFFF#32 } [0x09#8, 0x00#8, 0x00#8, 0x00#8, 0x80#8]
      (fun t => (t.a, t.p)) = some (0x8000FFFF#32, 0x90#8) := by decide

/-- LG6. -/
theorem test_eorImm : ∃ u : BitVec 16,
    after { emu16 0x10#8 with a := 0x5555#32 } [0x49#8, 0xFF#8, 0xFF#8] (fun t => (t.a, t.p)) =
      some (u ++ 0xAAAA#16, 0x90#8) := ⟨_, rfl⟩

/-- BT1: the immediate form leaves N and V. -/
theorem test_bitImm :
    after { emu8 0x30#8 with a := 0x01#32 } [0x89#8, 0x80#8] (·.p) = some 0x32#8 := by decide

/-- BT3. -/
theorem test_bitDir :
    after { emu16 0x10#8 with a := 0x4000#32, mem := [(0x10, 0x00#8), (0x11, 0x40#8)] }
      [0x24#8, 0x10#8] (·.p) = some 0x50#8 := by decide

/-- IN3: the carry goes from byte to byte. -/
theorem test_incAbs :
    after { emu16 0x10#8 with mem := [(0x2001, 0x00#8)] } [0xEE#8, 0x00#8, 0x20#8]
      (fun t => (bytes t [0x2000, 0x2001], t.p)) = some ([0x00#8, 0x01#8], 0x10#8) := by decide

/-- IN5: no borrow from `A[15:8]`. -/
theorem test_decAcc : ∃ u : BitVec 16,
    after { emu8 0x30#8 with a := 0x1200#32 } [0x3A#8] (fun t => (t.a, t.p)) =
      some ((u ++ 0x12#8 : BitVec 24) ++ 0xFF#8, 0xB0#8) := ⟨_, rfl⟩

/-- IN7. -/
theorem test_inx : after { emu8 0x30#8 with x := 0xFF#32 } [0xE8#8] (fun t => (t.x, t.p)) =
    some (0x00#32, 0x32#8) := by decide

/-- IN8. -/
theorem test_iny : ∃ u : BitVec 16,
    after { emu16 0x20#8 with y := 0xFF#32 } [0xC8#8] (fun t => (t.y, t.p)) =
      some (u ++ 0x0100#16, 0x20#8) := ⟨_, rfl⟩

/-- IN11. -/
theorem test_dex : after { nat16 0x20#8 with x := 0x00010000#32 } [0xCA#8] (fun t => (t.x, t.p)) =
    some (0x0000FFFF#32, 0x20#8) := by decide

/-- IN10. -/
theorem test_dey : ∃ u : BitVec 16,
    after { emu16 0x20#8 with y := 0x00#32 } [0x88#8] (fun t => (t.y, t.p)) =
      some (u ++ 0xFFFF#16, 0xA0#8) := ⟨_, rfl⟩

/-- SH4. -/
theorem test_aslDirX :
    after { emu8 0x30#8 with x := 0x01#32, mem := [(0x11, 0x40#8)] } [0x16#8, 0x10#8]
      (fun t => (t.readByte 0x11, t.p)) = some (0x80#8, 0xB0#8) := by decide

/-- SH7. -/
theorem test_lsrAcc : after { nat32 0x10#8 with a := 0x80000001#32 } [0x4A#8]
    (fun t => (t.a, t.p)) = some (0x40000000#32, 0x11#8) := by decide

/-- SH10. -/
theorem test_rolAcc : ∃ u : BitVec 16,
    after { emu16 0x11#8 with a := 0x4000#32 } [0x2A#8] (fun t => (t.a, t.p)) =
      some (u ++ 0x8001#16, 0x90#8) := ⟨_, rfl⟩

/-- SH13. -/
theorem test_rorAcc : after { nat32 0x11#8 with a := 0x00000002#32 } [0x6A#8]
    (fun t => (t.a, t.p)) = some (0x80000001#32, 0x90#8) := by decide

/-- TS2. -/
theorem test_tsbAbs :
    after { emu16 0x10#8 with a := 0x00FF#32, mem := [(0x2000, 0x0F#8), (0x2001, 0x0F#8)] }
      [0x0C#8, 0x00#8, 0x20#8] (fun t => (bytes t [0x2000, 0x2001], t.p)) =
      some ([0xFF#8, 0x0F#8], 0x10#8) := by decide

/-- TS4. -/
theorem test_trbDir :
    after { emu8 0x30#8 with a := 0x0F#32, mem := [(0x10, 0xF0#8)] } [0x14#8, 0x10#8]
      (fun t => (t.readByte 0x10, t.p)) = some (0xF0#8, 0x32#8) := by decide

/-- BR2: not taken. -/
theorem test_bcc : after (emu8 0x31#8) [0x90#8, 0x05#8] (·.pc) = some 0x8002#16 := by decide

/-- BR6: wraps in the bank. -/
theorem test_bne :
    after { emu8 0x30#8 with pbr := 0x02#8, pc := 0xFFF0#16 } [0xD0#8, 0x20#8]
      (fun t => (t.pbr, t.pc)) = some (0x02#8, 0x0012#16) := by decide

/-- BR4. -/
theorem test_bvs : after (emu8 0x70#8) [0x70#8, 0x80#8] (·.pc) = some 0x7F82#16 := by decide

/-- BR5. -/
theorem test_bvc : after (emu8 0x30#8) [0x50#8, 0x7F#8] (·.pc) = some 0x8081#16 := by decide

/-- BR9. -/
theorem test_brl :
    after { emu8 0x30#8 with pbr := 0x01#8 } [0x82#8, 0xFD#8, 0x7F#8] (fun t => (t.pbr, t.pc)) =
      some (0x01#8, 0x0000#16) := by decide

/-- JP2: the pointer wraps in Bank 0. -/
theorem test_jmpAbsInd :
    after { emu8 0x30#8 with
      pbr := 0x05#8, dbr := 0x07#8, mem := [(0x0000, 0x12#8), (0xFFFF, 0x34#8)] }
      [0x6C#8, 0xFF#8, 0xFF#8] (fun t => (t.pbr, t.pc)) = some (0x05#8, 0x1234#16) := by decide

/-- JP3: the pointer is in the program bank. -/
theorem test_jmpAbsIndX :
    after { emu16 0x20#8 with
      pbr := 0x02#8, x := 0x04#32, mem := [(0x029004, 0x00#8), (0x029005, 0xA0#8)] }
      [0x7C#8, 0x00#8, 0x90#8] (fun t => (t.pbr, t.pc)) = some (0x02#8, 0xA000#16) := by decide

/-- JP5. -/
theorem test_jmlAbsIndLong :
    after { emu8 0x30#8 with
      pbr := 0x05#8, mem := [(0x3000, 0x56#8), (0x3001, 0x34#8), (0x3002, 0x12#8)] }
      [0xDC#8, 0x00#8, 0x30#8] (fun t => (t.pbr, t.pc)) = some (0x12#8, 0x3456#16) := by decide

/-- CL7: JSR wraps in page 1 in EMU8. -/
theorem test_jsrAbs :
    after { emu8 0x30#8 with sp := 0x0100#16 } [0x20#8, 0x00#8, 0x90#8]
      (fun t => (bytes t [0x0100, 0x01FF], t.sp, t.pc)) =
      some ([0x80#8, 0x02#8], 0x01FE#16, 0x9000#16) := by decide

/-- CL5. -/
theorem test_jsrAbsIndX :
    after { emu16 0x20#8 with
      pbr := 0x02#8, x := 0x02#32, mem := [(0x029002, 0x11#8), (0x029003, 0x22#8)] }
      [0xFC#8, 0x00#8, 0x90#8] (fun t => (bytes t [0x01FF, 0x01FE], t.sp, t.pbr, t.pc)) =
      some ([0x80#8, 0x02#8], 0x01FD#16, 0x02#8, 0x2211#16) := by decide

/-- CL3. -/
theorem test_jsl :
    after (emu16 0x30#8) [0x22#8, 0x00#8, 0x90#8, 0x01#8]
      (fun t => (bytes t [0x01FF, 0x01FE, 0x01FD], t.sp, t.pbr, t.pc)) =
      some ([0x00#8, 0x80#8, 0x03#8], 0x01FC#16, 0x01#8, 0x9000#16) := by decide

/-- CL6: the increment wraps in the bank. -/
theorem test_rts :
    after { emu16 0x30#8 with
      sp := 0x01FD#16, pbr := 0x03#8, pc := 0x4000#16, mem := [] } [0x60#8]
      (fun t => (t.sp, t.pbr, t.pc)) = some (0x01FF#16, 0x03#8, 0x0000#16) := by decide

/-- CL4. -/
theorem test_rtl :
    after { emu16 0x30#8 with
      sp := 0x01FC#16, pbr := 0x01#8, pc := 0x9000#16
      mem := [(0x1FD, 0x03#8), (0x1FE, 0x80#8), (0x1FF, 0x00#8)] } [0x6B#8]
      (fun t => (t.sp, t.pbr, t.pc)) = some (0x01FF#16, 0x00#8, 0x8004#16) := by decide

/-- ST3. -/
theorem test_pha :
    after { nat32 0x10#8 with a := 0xAABBCCDD#32 } [0x48#8]
      (fun t => (bytes t [0x1FF, 0x1FE, 0x1FD, 0x1FC], t.sp)) =
      some ([0xAA#8, 0xBB#8, 0xCC#8, 0xDD#8], 0x01FB#16) := by decide

/-- ST6: PLA wraps in page 1. -/
theorem test_pla : ∃ u : BitVec 24,
    after { emu8 0x30#8 with mem := [(0x100, 0x77#8)] } [0x68#8] (fun t => (t.a, t.sp, t.p)) =
      some (u ++ 0x77#8, 0x0100#16, 0x30#8) := ⟨_, rfl⟩

/-- ST21. -/
theorem test_phy :
    after { nat16 0x20#8 with y := 0xAABBCCDD#32 } [0x5A#8]
      (fun t => (bytes t [0x1FF, 0x1FE, 0x1FD, 0x1FC], t.sp)) =
      some ([0xAA#8, 0xBB#8, 0xCC#8, 0xDD#8], 0x01FB#16) := by decide

/-- ST8. -/
theorem test_php : after (emu8 0x34#8) [0x08#8] (fun t => (t.readByte 0x1FF, t.sp)) =
    some (0x34#8, 0x01FE#16) := by decide

/-- ST10: PLP with X = 1 clears the upper bytes of the index registers. -/
theorem test_plp :
    after { emu16 0x00#8 with
      x := 0x1234#32, y := 0xABCD#32, sp := 0x01FE#16, mem := [(0x1FF, 0x10#8)] } [0x28#8]
      (fun t => (t.p, t.x, t.y, t.sp)) = some (0x10#8, 0x34#32, 0xCD#32, 0x01FF#16) := by decide

/-- ST12. -/
theorem test_plb :
    after { emu16 0x30#8 with sp := 0x01FE#16, mem := [(0x1FF, 0x82#8)] } [0xAB#8]
      (fun t => (t.dbr, t.p, t.sp)) = some (0x82#8, 0xB0#8, 0x01FF#16) := by decide

/-- ST13. -/
theorem test_phd :
    after { emu16 0x30#8 with d := 0x1200#16 } [0x0B#8] (fun t => (bytes t [0x1FF, 0x1FE], t.sp)) =
      some ([0x12#8, 0x00#8], 0x01FD#16) := by decide

/-- ST14. -/
theorem test_pld :
    after { emu16 0x30#8 with sp := 0x01FD#16, mem := [(0x1FE, 0x00#8), (0x1FF, 0x80#8)] } [0x2B#8]
      (fun t => (t.d, t.p, t.sp)) = some (0x8000#16, 0xB0#8, 0x01FF#16) := by decide

/-- ST20: the push that would wrap the stack page is refused. -/
theorem test_pea_wraps :
    step ({ emu8 0x30#8 with sp := 0x0100#16 }.placeBytes 0 [0xF4#8, 0x34#8, 0x12#8]) =
      .refused .stackPageWrap := by rfl

/-- ST17. -/
theorem test_pei :
    after { emu16 0x30#8 with mem := [(0x10, 0x78#8), (0x11, 0x56#8)] } [0xD4#8, 0x10#8]
      (fun t => (bytes t [0x1FF, 0x1FE], t.sp)) = some ([0x56#8, 0x78#8], 0x01FD#16) := by decide

/-- ST19. -/
theorem test_per :
    after (emu16 0x30#8) [0x62#8, 0xFD#8, 0xFF#8] (bytes · [0x1FF, 0x1FE]) =
      some [0x80#8, 0x00#8] := by decide

/-- FL1 and FL3. -/
theorem test_clc_clv :
    after (emu8 0x35#8) [0x18#8] (·.p) = some 0x34#8 ∧
      after (emu8 0x74#8) [0xB8#8] (·.p) = some 0x34#8 := by decide

/-- FL5: in EMU8, M and X cannot be cleared. -/
theorem test_rep : after (emu8 0x34#8) [0xC2#8, 0x30#8] (·.p) = some 0x34#8 := by decide

/-- FL8. -/
theorem test_sep :
    after { nat16 0x00#8 with x := 0x12345678#32, y := 0x9ABCDEF0#32 } [0xE2#8, 0x10#8]
      (fun t => (t.p, t.x, t.y)) = some (0x10#8, 0x78#32, 0xF0#32) := by decide

/-- MS2: XCE into EMU8. -/
theorem test_xce :
    after { emu16 0x01#8 with a := 0x5678#32, x := 0x1234#32, y := 0xABCD#32, sp := 0x1FF0#16 }
      [0xFB#8] (fun t => (t.e16, t.e8, t.p, t.x, t.y, t.sp)) =
      some (true, true, 0x30#8, 0x34#32, 0xCD#32, 0x01F0#16) := by decide

/-- MS5 and MS10. -/
theorem test_xfe :
    after (emu16 0x05#8) [0x42#8] (fun t => (t.e16, t.e8, t.p)) = some (false, true, 0x44#8) ∧
      after (emu8 0x34#8) [0x42#8] (fun t => (t.e16, t.e8, t.p)) =
        some (false, false, 0x75#8) := by decide

/-- IR10. -/
theorem test_brk :
    after { emu16 0x08#8 with mem := [(0xFFE6, 0x00#8), (0xFFE7, 0xD0#8)] } [0x00#8, 0x00#8]
      (fun t => (bytes t [0x1FF, 0x1FE, 0x1FD, 0x1FC], t.sp, t.p, t.pc)) =
      some ([0x00#8, 0x80#8, 0x02#8, 0x08#8], 0x01FB#16, 0x04#8, 0xD000#16) := by decide

/-- IR12. -/
theorem test_cop :
    after { emu8 0x30#8 with mem := [(0xFFF4, 0x00#8), (0xFFF5, 0xC0#8)] } [0x02#8, 0x10#8]
      (fun t => (bytes t [0x1FF, 0x1FE, 0x1FD], t.sp, t.p, t.pc)) =
      some ([0x80#8, 0x02#8, 0x30#8], 0x01FC#16, 0x34#8, 0xC000#16) := by decide

/-- IR6. -/
theorem test_rti :
    after { emu16 0x05#8 with
      pc := 0x9010#16, sp := 0x1FFB#16
      mem := [(0x1FFC, 0x09#8), (0x1FFD, 0x23#8), (0x1FFE, 0x81#8), (0x1FFF, 0x02#8)] } [0x40#8]
      (fun t => (t.sp, t.p, t.pbr, t.pc)) =
      some (0x1FFF#16, 0x09#8, 0x02#8, 0x8123#16) := by decide

/-- IR17: an IRQ- whose frame wraps the stack page; the status byte has bit 4 clear. -/
theorem test_irq :
    after { emu8 0x30#8 with pc := 0x8123#16, sp := 0x0101#16, irqLow := true } []
      (fun t => (bytes t [0x101, 0x100, 0x1FF], t.sp)) =
      some ([0x81#8, 0x23#8, 0x20#8], 0x01FE#16) := by decide

/-- IR8: NMI- before IRQ-. -/
theorem test_nmi_first :
    after { emu16 0x00#8 with
      irqLow := true, nmiPending := true, mem := [(0xFFEA, 0x00#8), (0xFFEB, 0xB0#8)] } []
      (fun t => (t.pc, t.nmiPending, t.p)) = some (0xB000#16, false, 0x04#8) := by decide

/-- IR13: ABORT- during `STA $2000` leaves the registers and goes to its vector. -/
theorem test_abort :
    after { emu16 0x00#8 with
      inputs := [⟨false, .writesBlocked, false, false⟩], mem := [(0x2000, 0x12#8)] }
      [0x8D#8, 0x00#8, 0x20#8] (fun t => (t.pc, t.readByte 0x2000, t.abortPending)) =
      some (0x8000#16, 0x12#8, true) := by decide

/-- R323 and R324: WAI and STP set their latch. -/
theorem test_wai_stp :
    after (emu8 0x30#8) [0xCB#8] (fun t => (t.waiting, t.pc)) = some (true, 0x8001#16) ∧
      after (emu8 0x30#8) [0xDB#8] (fun t => (t.stopped, t.pc)) = some (true, 0x8001#16) := by decide

/-- BM1, its first byte. -/
theorem test_mvp :
    after { emu16 0x20#8 with
      a := 0x01#32, x := 0x1001#32, y := 0x2001#32, dbr := 0x09#8, mem := [(0x1001, 0xBB#8)] }
      [0x44#8, 0x00#8, 0x00#8] (fun t => (t.readByte 0x2001, t.dbr, t.pc)) =
      some (0xBB#8, 0x00#8, 0x8000#16) := by decide

/-- BM3: across banks, the last byte. -/
theorem test_mvn :
    after { emu16 0x20#8 with
      a := 0x00#32, x := 0xFFFF#32, y := 0x00#32, mem := [(0x03FFFF, 0x7E#8)] }
      [0x54#8, 0x04#8, 0x03#8] (fun t => (t.readByte 0x040000, t.dbr, t.pc)) =
      some (0x7E#8, 0x04#8, 0x8003#16) := by decide

/-- The reset table with the vector 8765, from any state (R47, R390). -/
theorem test_reset_input :
    after { nat16 0x00#8 with
      d := 0x1234#16, sp := 0x4444#16, stopped := true, inputs := [⟨true, .none, true, false⟩]
      mem := [(0xFFFC, 0x65#8), (0xFFFD, 0x87#8)] } []
      (fun t => (t.pc, t.d, t.e8, t.e16, t.nmiPending, t.stopped)) =
      some (0x8765#16, 0x0000#16, true, true, false, false) := by decide

/-- A program that is in memory when RES- goes high starts at its vector (R390; log 26). -/
theorem test_loaded :
    (State.loaded [(0xFFFC, 0x00#8), (0xFFFD, 0x80#8)]).pc = 0x8000#16 := by decide

/-- The host's word is the next instruction after reset: `LDX #$80` (log 26). -/
theorem test_withFetchWord :
    (match step (State.reset.withFetchWord 16 0x80A2) with
      | .next t => some (t.x, t.pc)
      | _ => none) = some (0x80#32, 0x0001#16) := by decide

/-- Memory Lock is three, five or nine cycles (20_memory.md R87), and RDY is pulled low while waiting. -/
theorem test_pins :
    [Width.w8, .w16, .w32].map memoryLockCycles = [3, 5, 9] ∧
      State.reset.pinReadyPulledLow = false ∧ State.reset.pinEmulation = (true, true) ∧
      State.reset.pinModeSelect = (true, true) ∧ resetSignals.sync = false := by decide

/-! ### Witnesses: a state and operands that meet the hypotheses of each statement that has some -/

/-- EMU8 with `D[7:0]` not zero and X = 1: the boundary of the `(d,x)` anomaly. -/
def anomalous : State := { emu8 0x30#8 with d := 0x0001#16, x := 0x01#32 }

/-- A state whose next instruction is NOP. -/
def atNop : State := { emu8 0x34#8 with mem := [(0x8000, 0xEA#8)] }

/-- A sample of the pins with nothing on them. -/
def quiet : PinSample := { resLow := false, abort := .none, nmiEdge := false, irqLow := false }

theorem witness_DecodeOfEncodeIsTheInstruction :
    WellFormedWith (some 0x42#8) { mw := .w8, xw := .w16 } (.ldaImm 0xFF#32) = true ∧
      WellFormedWith (some 0x42#8) { mw := .w8, xw := .w16 } (.ldxImm 0xFFFF#32) = true ∧
      WellFormedWith (some 0x42#8) { mw := .w8, xw := .w16 } .xfe = true := by decide

theorem witness_DecodedBytesAreTheEncoding :
    decodeWith none { mw := .w8, xw := .w8 } [0x42#8, 0x01#8, 0x02#8] = .ok (.wdm 0x01#8, [0x02#8]) :=
  rfl

theorem witness_StepExecutesTheDecodedInstruction :
    Fetches atNop ∧
      decode atNop.widths ((List.range 5).map fun k =>
        atNop.readByte (bankAddr atNop.pbr (atNop.pc.toNat + k))) =
          .ok (.nop, [0xFF#8, 0xFF#8, 0xFF#8, 0xFF#8]) ∧
      atNop.inputs = [] ∧ (∃ t, exec .nop atNop = .next t) :=
  ⟨by decide, by
    rw [show ((List.range 5).map fun k => atNop.readByte (bankAddr atNop.pbr (atNop.pc.toNat + k))) =
      [0xEA#8, 0xFF#8, 0xFF#8, 0xFF#8, 0xFF#8] by decide]
    rfl, rfl, _, rfl⟩

/-- The refusal clause of the statement of the step. -/
theorem witness_StepExecutesTheDecodedInstruction_refused :
    Fetches { emu8 0x34#8 with sp := 0x0100#16 } ∧
      exec (.pea 0x1234#16) { emu8 0x34#8 with sp := 0x0100#16 } = .refused .stackPageWrap :=
  ⟨by decide, rfl⟩

/-- A sample with RES- low. -/
def resetting : PinSample := { quiet with resLow := true }

/-- The clauses on memory: stopped, an interrupt due, waiting, and an instruction, its writes blocked by
ABORT- or not. -/
theorem witness_ResetInputInitialisesTheMachine :
    (∃ t, step { atNop with stopped := true, inputs := [resetting] } = .next t) ∧
      (Due { atNop with nmiPending := true, inputs := [resetting] } .nmi ∧
        ∃ t, step { atNop with nmiPending := true, inputs := [resetting] } = .next t) ∧
      (Fetches { atNop with inputs := [resetting] } ∧
        (∃ t, step { atNop with waiting := true, inputs := [resetting] } = .next t) ∧
        (∃ t, step { atNop with inputs := [resetting] } = .next t)) ∧
      (Fetches { atNop with inputs := [{ resetting with abort := .writesBlocked }] } ∧
        ∃ t, step { atNop with inputs := [{ resetting with abort := .writesBlocked }] } = .next t) :=
  ⟨⟨_, rfl⟩, ⟨by simp [Due, atNop, emu8, start, State.reset], _, rfl⟩, ⟨by decide, ⟨_, rfl⟩, ⟨_, rfl⟩⟩,
    by decide, _, rfl⟩

theorem witness_EveryStepKeepsTheInvariant : State.reset.Inv ∧ ∃ t, step State.reset = .next t :=
  ⟨by decide, _, rfl⟩

/-- The page clause and the other clause of a direct address. -/
theorem witness_DirectOperands :
    (emu8 0x30#8).emu8 = true ∧ (emu8 0x30#8).d.toNat % 256 = 0 ∧
      ¬ (anomalous.d.toNat % 256 = 0) ∧ (emu16 0x30#8).emu8 = false := by decide

/-- Both sides of the boundary of the `(d,x)` anomaly: `d8 + X[7:0]` of 255 and of 256. -/
theorem witness_DirectPointersGiveTheEffectiveAddress :
    anomalous.emu8 = true ∧ anomalous.d.toNat % 256 ≠ 0 ∧
      255 < (0xFF#8).toNat + anomalous.x.toNat % 256 ∧
      ¬ (255 < (0xFE#8).toNat + anomalous.x.toNat % 256) := by decide

theorem witness_LdaLoadsTheAccumulator : (Instr.ldaSr 0x01#8).mnemonic = .lda := rfl

theorem witness_LdxAndLdyLoadTheIndexRegisters :
    (Instr.ldxDirY 0xFF#8).mnemonic = .ldx ∧ (Instr.ldyAbsX 0xFFFF#16).mnemonic = .ldy := ⟨rfl, rfl⟩

theorem witness_StoresWriteTheirOperandAlone :
    (Instr.staIndLong 0x00#8).mnemonic = .sta ∧ (Instr.stxDirY 0x00#8).mnemonic = .stx ∧
      (Instr.styDirX 0x00#8).mnemonic = .sty ∧ (Instr.stzAbs 0x0000#16).mnemonic = .stz :=
  ⟨rfl, rfl, rfl, rfl⟩

theorem witness_TransfersToTheIndexRegisters :
    ∃ (i : Instr) (v : Nat), i = .tsx ∧ v = State.reset.sp.toNat := ⟨_, _, rfl, rfl⟩

theorem witness_TransfersToTheAccumulator :
    ∃ (i : Instr) (w : Width) (v : Nat), i = .tdc ∧ w = .w16 ∧ v = State.reset.d.toNat :=
  ⟨_, _, _, rfl, rfl, rfl⟩

/-- TXS, TCS and TCD, and both branches on the mode. -/
theorem witness_TransfersToTheStackPointerAndDirectRegister :
    (∃ (i : Instr) (v : Nat), i = .txs ∧ v = State.reset.x.toNat) ∧
      (emu8 0x30#8).emu8 = true ∧ (nat16 0x30#8).emu8 = false :=
  ⟨⟨_, _, rfl, rfl⟩, by decide, by decide⟩

theorem witness_AdcAddsInBinaryMode :
    (Instr.adcImm 0x01#32).mnemonic = .adc ∧ (emu8 0x30#8).flag .d = false := by decide

theorem witness_SbcSubtractsInBinaryMode :
    (Instr.sbcImm 0x01#32).mnemonic = .sbc ∧ (emu8 0x30#8).flag .d = false := by decide

/-- DC5's state and operand: every digit of both is at most 9, at the widest width and at the greatest
value. -/
theorem witness_AdcAddsDecimalDigits :
    (Instr.adcImm 0x01#32).mnemonic = .adc ∧ sourceOf (Instr.adcImm 0x01#32).operand =
        some (.imm 0x01#32) ∧
      ∃ s : State, s.flag .d = true ∧ s.mw = .w32 ∧ AllDigits (s.a.toNat % 2 ^ 32) 8 ∧
        AllDigits (s.sourceValue (.imm 0x01#32) .w32).toNat 8 := by
  refine ⟨rfl, rfl, { nat32 0x18#8 with a := 0x99999999#32 }, by decide, by decide, ?_, ?_⟩ <;>
    unfold AllDigits <;> decide

/-- DC6's state and operand, with a borrow. -/
theorem witness_SbcSubtractsDecimalDigits :
    (Instr.sbcImm 0x01#32).mnemonic = .sbc ∧ sourceOf (Instr.sbcImm 0x01#32).operand =
        some (.imm 0x01#32) ∧
      ∃ s : State, s.flag .d = true ∧ s.mw = .w8 ∧ AllDigits (s.a.toNat % 2 ^ 8) 2 ∧
        AllDigits (s.sourceValue (.imm 0x01#32) .w8).toNat 2 := by
  refine ⟨rfl, rfl, { emu8 0x39#8 with a := 0x00#32 }, by decide, by decide, ?_, ?_⟩ <;>
    unfold AllDigits <;> decide

theorem witness_ComparesSetNZCAlone :
    ∃ (i : Instr) (w : Width) (reg : Word32),
      i.mnemonic = .cpy ∧ w = (emu8 0x30#8).xw ∧ reg = (emu8 0x30#8).y :=
  ⟨.cpyImm 0x00#32, _, _, rfl, rfl, rfl⟩

theorem witness_LogicOperationsWriteTheAccumulator :
    (Instr.andAbs 0x0000#16).mnemonic = .and ∧ (Instr.oraDir 0x00#8).mnemonic = .ora ∧
      (Instr.eorImm 0x00#32).mnemonic = .eor := ⟨rfl, rfl, rfl⟩

/-- Both forms of BIT. -/
theorem witness_BitTestsWithoutWriting :
    (Instr.bitImm 0x00#32).mnemonic = .bit ∧ (Instr.bitImm 0x00#32).format = .imm ∧
      (Instr.bitDir 0x00#8).mnemonic = .bit ∧ (Instr.bitDir 0x00#8).format ≠ .imm := by decide

theorem witness_IncAndDecWrapAtTheirWidth :
    Instr.incAcc.mnemonic = .inc ∧ (Instr.decAbsX 0x0000#16).mnemonic = .dec := ⟨rfl, rfl⟩

theorem witness_IndexIncrementsWrapAtTheirWidth :
    ∃ (i : Instr) (v : Nat), i = .dex ∧ v = (emu8 0x30#8).x.toNat + 2 ^ 32 - 1 := ⟨_, _, rfl, rfl⟩

/-- ROR of 8 bits with C = 1, and the result its bits ask for (SH11). -/
theorem witness_ShiftsMoveOneBitThroughCarry :
    Instr.rorAcc.mnemonic = .ror ∧ ∃ r : BitVec 8, ∀ b, b < 8 →
      r.getLsbD b = if b = 7 then true else (0x01#8).getLsbD (b + 1) :=
  ⟨rfl, 0x80#8, by decide⟩

theorem witness_TsbAndTrbWriteTheOperandBack :
    (Instr.tsbDir 0x00#8).mnemonic = .tsb ∧ (Instr.trbAbs 0x0000#16).mnemonic = .trb := ⟨rfl, rfl⟩

/-- A branch taken and one not taken. -/
theorem witness_BranchesAddTheDisplacementWhenTaken :
    branchTaken (emu8 0x31#8) (Instr.bcs 0x80#8).mnemonic = some true ∧
      branchTaken (emu8 0x31#8) (Instr.bcc 0x80#8).mnemonic = some false := by decide

/-- The first values of S at which two and three pushes do not wrap, and the last at which they do. -/
theorem witness_PushWraps :
    ¬ PushWraps { emu8 0x30#8 with sp := 0x0102#16 } 2 ∧
      PushWraps { emu8 0x30#8 with sp := 0x0101#16 } 2 ∧
      ¬ PushWraps { emu8 0x30#8 with sp := 0x0103#16 } 3 ∧
      PushWraps { emu8 0x30#8 with sp := 0x0102#16 } 3 ∧
      ¬ PushWraps { emu16 0x30#8 with sp := 0x0100#16 } 3 := by
  unfold PushWraps
  decide

/-- The last values of S at which one, two and three pulls do not wrap, and the first at which they do. -/
theorem witness_PullWraps :
    ¬ PullWraps { emu8 0x30#8 with sp := 0x01FE#16 } 1 ∧
      PullWraps { emu8 0x30#8 with sp := 0x01FF#16 } 1 ∧
      ¬ PullWraps { emu8 0x30#8 with sp := 0x01FD#16 } 2 ∧
      PullWraps { emu8 0x30#8 with sp := 0x01FE#16 } 2 ∧
      ¬ PullWraps { emu8 0x30#8 with sp := 0x01FC#16 } 3 ∧
      PullWraps { emu8 0x30#8 with sp := 0x01FD#16 } 3 := by
  unfold PullWraps
  decide

theorem witness_RegisterPushesFollowTheWidths :
    ∃ (i : Instr) (n v : Nat),
      i = .pha ∧ n = (nat32 0x10#8).mw.bytes ∧ v = (nat32 0x10#8).a.toNat :=
  ⟨_, _, _, rfl, rfl, rfl⟩

theorem witness_BytePushesPushOneByte :
    ∃ (i : Instr) (v : Byte), i = .php ∧ v = State.reset.p := ⟨_, _, rfl, rfl⟩

/-- PEI at an S that does not wrap. -/
theorem witness_WordPushesPushSixteenBits :
    (∃ (i : Instr) (d8 : Byte) (v : Nat), i = .pei d8 ∧
      v = bytesAt (emu8 0x30#8) (fun k => ((emu8 0x30#8).d.toNat + d8.toNat + k) % 65536) 2) ∧
      ¬ PushWraps (emu8 0x30#8) 2 := by
  refine ⟨⟨_, 0xFF#8, _, rfl, rfl⟩, ?_⟩
  unfold PushWraps
  decide

/-- Every instruction of rule R307 with its count of bytes. -/
theorem witness_WrappingStackInstructionsAreRefused :
    wrapPushes (.pea 0x0000#16) = some 2 ∧ wrapPushes (.pei 0x00#8) = some 2 ∧
      wrapPushes (.per 0x0000#16) = some 2 ∧ wrapPushes .phd = some 2 ∧
      wrapPushes (.jsrAbsIndX 0x0000#16) = some 2 ∧ wrapPushes (.jsl 0x000000#24) = some 3 ∧
      wrapPulls .plb = some 1 ∧ wrapPulls .pld = some 2 ∧ wrapPulls .rtl = some 3 := by decide

theorem witness_FlagInstructionsWriteOneFlag :
    ∃ (i : Instr) (f : Flag) (b : Bool), (i, f, b) ∈ [(Instr.clv, Flag.v, false)] :=
  ⟨_, _, _, List.mem_singleton.2 rfl⟩

/-- REP and SEP, and the three cases of `setP`: EMU8, and X = 1 and X = 0 outside it. -/
theorem witness_RepAndSepWriteTheMaskedFlags :
    (∃ (i : Instr) (m8 v : Byte), i = .rep m8 ∧ v = (emu8 0x34#8).p &&& ~~~m8) ∧
      (emu8 0x34#8).emu8 = true ∧ (emu16 0x10#8).flag .x = true ∧ (emu16 0x00#8).flag .x = false :=
  ⟨⟨_, 0x30#8, _, rfl, rfl⟩, by decide, by decide, by decide⟩

/-- XCE into EMU8 and out of it. -/
theorem witness_ModeExchangesSwapFlagsAndForceEmu8 :
    (∃ t, exec .xce (emu16 0x01#8) = .next t ∧ t.e16 = true ∧ t.e8 = true) ∧
      (∃ t, exec .xce (emu8 0x30#8) = .next t ∧ t.e16 = true ∧ t.e8 = false) :=
  ⟨⟨_, rfl, by decide, by decide⟩, ⟨_, rfl, by decide, by decide⟩⟩

theorem witness_RtiUndoesAnInterrupt :
    (emu8 0x34#8).Inv ∧ ∃ u, exec .rti ((emu8 0x34#8).takeInterrupt .nmi 0x8123#16) = .next u :=
  ⟨by decide, _, rfl⟩

theorem witness_BlockMovesMoveOneByteAStep :
    ∃ (i : Instr) (down : Bool), i = .mvp 0x01#8 0x02#8 ∧ down = true := ⟨_, _, rfl, rfl⟩

/-- The three clauses of the boundary, an IRQ- only with P.I = 0. -/
theorem witness_BoundaryTakesInterruptsByPriority :
    (∃ (s : State) (k : Interrupt), s.stopped = false ∧ k = .abort ∧ s.abortPending = true) ∧
      (∃ (s : State) (k : Interrupt), s.stopped = false ∧ k = .nmi ∧ s.abortPending = false ∧
        s.nmiPending = true) ∧
      (∃ (s : State) (k : Interrupt), s.stopped = false ∧ k = .irq ∧ s.abortPending = false ∧
        s.nmiPending = false ∧ s.irqLow = true ∧ s.flag .i = false) :=
  ⟨⟨{ emu8 0x34#8 with abortPending := true, nmiPending := true }, _, rfl, rfl, rfl⟩,
    ⟨{ emu8 0x34#8 with nmiPending := true, irqLow := true }, _, rfl, rfl, rfl, rfl⟩,
    ⟨{ emu8 0x30#8 with irqLow := true }, _, rfl, rfl, rfl, rfl, rfl, by decide⟩⟩

/-- A wait that goes on, a wait that a masked IRQ- ends, and a stopped processor that takes a sample. -/
theorem witness_WaitingAndStoppedExecuteNothing :
    (∃ t, step { emu8 0x34#8 with waiting := true } = .next t ∧ t.waiting = true) ∧
      (∃ t, step { emu8 0x34#8 with waiting := true, irqLow := true } = .next t ∧
        t.waiting = false) ∧
      (∃ t, step { emu8 0x34#8 with stopped := true, inputs := [{ quiet with nmiEdge := true }] } =
        .next t ∧ t.nmiPending = false ∧ t.stopped = true) :=
  ⟨⟨_, rfl, by decide⟩, ⟨_, rfl, by decide⟩, ⟨_, rfl, by decide, by decide⟩⟩

theorem witness_SamplesLatchTheInputs :
    { emu8 0x34#8 with inputs := [quiet] }.inputs = [quiet] ∧ quiet.resLow = false := ⟨rfl, rfl⟩

/-- A NOP that ABORT- hits, with its writes blocked and with them landing. -/
theorem witness_AbortedInstructionModifiesNoRegister :
    Fetches { atNop with inputs := [{ quiet with abort := .writesBlocked }] } ∧
      (∃ u, step { atNop with inputs := [{ quiet with abort := .writesBlocked }] } = .next u) ∧
      (∃ u, step { atNop with inputs := [{ quiet with abort := .writesLand }] } = .next u) :=
  ⟨by decide, ⟨_, rfl⟩, ⟨_, rfl⟩⟩

theorem witness_OnlyLongTransfersChangeTheProgramBank :
    ∃ t, exec (.jmlLong 0x020000#24) (emu8 0x30#8) = .next t ∧ t.pbr ≠ (emu8 0x30#8).pbr :=
  ⟨_, rfl, by decide⟩

/-- XFE changes E8 and E16, MVN changes DBR and TCD changes D. -/
theorem witness_OnlyNamedInstructionsChangeModeAndBankRegisters :
    (∃ t, exec .xfe (emu8 0x30#8) = .next t ∧ t.e8 ≠ (emu8 0x30#8).e8 ∧
        t.e16 ≠ (emu8 0x30#8).e16) ∧
      (∃ t, exec (.mvn 0x01#8 0x00#8) (emu8 0x30#8) = .next t ∧ t.dbr ≠ (emu8 0x30#8).dbr) ∧
      (∃ t, exec .tcd (emu8 0x30#8) = .next t ∧ t.d ≠ (emu8 0x30#8).d) :=
  ⟨⟨_, rfl, by decide, by decide⟩, ⟨_, rfl, by decide⟩, ⟨_, rfl, by decide⟩⟩

theorem witness_InstructionsLeaveTheInputStateAlone :
    (∃ t, exec .stp (emu8 0x30#8) = .next t ∧ t.stopped ≠ (emu8 0x30#8).stopped) ∧
      (∃ t, exec .wai (emu8 0x30#8) = .next t ∧ t.waiting = true ∧
        (emu8 0x30#8).waiting = false) :=
  ⟨⟨_, rfl, by decide⟩, ⟨_, rfl, rfl, rfl⟩⟩

end Sys2Proof.Tests
end

section
/-! PROOFS. What no instruction touches: the samples of the input pins and the latches behind them, the
Instruction Register and the index of free values (spec 10_state.md R43, R45, 60_exceptions.md R346). -/

namespace Sys2Proof.Machine

/-- What only the pins, the boundary and the fetch write is the same in two states: the samples to come,
the level of IRQ-, the pending latches, the Instruction Register and the index of free values. -/
def InputStateKept (s t : State) : Prop :=
  t.inputs = s.inputs ∧ t.irqLow = s.irqLow ∧ t.nmiPending = s.nmiPending ∧
    t.abortPending = s.abortPending ∧ t.ir = s.ir ∧ t.draw = s.draw

/-- A result behind the condition of R307 is the one of the branch that does not refuse. -/
theorem eq_of_unless_refused_eq_next {c : Prop} [Decidable c] {r : Refusal} {t u : State}
    (h : (if c then .refused r else .next u : Result) = .next t) : u = t := by
  split at h
  · cases h
  · exact Host.Outcome.next.inj h

/-- The interrupt sequence clears a pending latch for NMI- and ABORT- alone (60_exceptions.md R350). -/
theorem inputStateKept_takeInterrupt (s : State) {k : Interrupt} (ret : Word16) (hnmi : k ≠ .nmi)
    (habort : k ≠ .abort) : InputStateKept s (s.takeInterrupt k ret) := by
  simp [InputStateKept, State.takeInterrupt, hnmi, habort]

theorem inputStateKept_of_pushWord {v : Word16} {len : Nat} {s t : State}
    (h : pushWord v len s = .next t) : InputStateKept s t := by
  obtain rfl := eq_of_unless_refused_eq_next h
  simp [InputStateKept]

theorem inputStateKept_of_branch {cond : Bool} {r8 : Byte} {s t : State}
    (h : branch cond r8 s = .next t) : InputStateKept s t := by
  rw [branch_eq] at h
  cases h
  simp [InputStateKept]

theorem inputStateKept_of_blockMove {delta : Word16} {dst src : Byte} {s t : State}
    (h : blockMove delta dst src s = .next t) : InputStateKept s t := by
  obtain ⟨u, hu, hframe, -⟩ := blockMove_eq delta dst src s
  rw [hu] at h
  cases h
  rw [hframe]
  simp [InputStateKept]

/-- No instruction touches the input state: a meaning is a chain of updates that each leave it alone,
in some behind the condition of R307, or the interrupt sequence of BRK and COP. -/
theorem Runs.inputStateKept {i : Instr} {s t : State} {r : Result} (h : Runs s i r)
    (hr : r = .next t) : InputStateKept s t := by
  cases h
  case bcc | bcs | beq | bne | bmi | bpl | bvc | bvs | bra => exact inputStateKept_of_branch hr
  case mvn | mvp => exact inputStateKept_of_blockMove hr
  case pea | pei | per | phd => exact inputStateKept_of_pushWord hr
  case plb | pld | jsl | jsrAbsIndX | rtl =>
    obtain rfl := eq_of_unless_refused_eq_next hr
    simp [InputStateKept]
  case brk | cop =>
    cases hr
    exact inputStateKept_takeInterrupt _ _ (by decide) (by decide)
  all_goals
    cases hr
    simp [InputStateKept, shiftWriteBack]

/-- The samples to come after an instruction are those before it (log 17). -/
theorem exec_inputs {i : Instr} {s t : State} (h : exec i s = .next t) : t.inputs = s.inputs := by
  obtain ⟨hinputs, -⟩ := (runs s i).inputStateKept h
  exact hinputs

end Sys2Proof.Machine
end

section
/-! PROOFS. The fetch (spec 00_scope.md R6, R7): the bytes at `PBR:PC` as addresses of the program bank,
and the instruction that a decode of them gives. -/

namespace Sys2Proof.Machine

open Sys2Proof.Claims

/-- A program location wraps in its bank (20_memory.md R72, 40_addressing_modes.md R131). -/
theorem addr_program (bank : Byte) (off : Word16) (k : Nat) :
    (Loc.program bank off).addr k = bankAddr bank (off.toNat + k) := by
  simp [Loc.addr, bankAddr, BitVec.toNat_add]

theorem fetch_eq_readByte (s : State) (k : Nat) :
    s.fetch k = s.readByte (bankAddr s.pbr (s.pc.toNat + k)) := by
  rw [State.fetch, addr_program]

theorem fetchBytes_eq_map_readByte (s : State) :
    s.fetchBytes = (List.range 5).map fun k => s.readByte (bankAddr s.pbr (s.pc.toNat + k)) :=
  List.map_congr_left fun k _ => fetch_eq_readByte s k

theorem latched_eq_readByte (s : State) :
    s.latched = { s with ir := s.readByte (bankAddr s.pbr s.pc.toNat), draw := s.draw + 1 } := by
  rw [State.latched, fetch_eq_readByte, Nat.add_zero]

/-- Where a list with an opcode byte decodes, it decodes to the instruction of that opcode and the bytes
after it (30_encoding.md R107, R112). -/
theorem decode_cons_eq_ok {w : Widths} {op : Byte} {bytes rest : List Byte} {i : Instr}
    (h : decode w (op :: bytes) = .ok (i, rest)) : decodeOp w op (.ofRest bytes) = i := by
  simp only [decode, decodeWith] at h
  split at h
  · cases h
  · cases h
    rfl

/-- The fetch reads what the decoder reads from the bytes at `PBR:PC` (00_scope.md R7). -/
theorem fetchInstr_eq_of_decode {s : State} {i : Instr} {rest : List Byte}
    (h : decode s.widths s.fetchBytes = .ok (i, rest)) : s.fetchInstr = i :=
  decode_cons_eq_ok h

end Sys2Proof.Machine
end

section
/-! PROOFS. The step that fetches (spec 00_scope.md R7, 60_exceptions.md R346): where no interrupt is due
and the processor neither waits nor is stopped, the step is one instruction and the sample after it. -/

namespace Sys2Proof.Machine

open Sys2Proof.Claims

/-- No interrupt is due where no latch is set and P.I masks a low IRQ- (60_exceptions.md R346, R347). -/
theorem interruptDue_eq_none {s : State} (habort : s.abortPending = false)
    (hnmi : s.nmiPending = false) (hirq : s.irqLow = true → s.flag .i = true) :
    s.interruptDue = none := by
  cases hlow : s.irqLow with
  | false => simp [State.interruptDue, habort, hnmi, hlow]
  | true => simp [State.interruptDue, habort, hnmi, hirq hlow]

theorem step_eq_runInstruction {s : State} (h : Fetches s) : step s = s.runInstruction := by
  obtain ⟨hstopped, hwaiting, habort, hnmi, hirq⟩ := h
  simp [step, hstopped, hwaiting, interruptDue_eq_none habort hnmi hirq]

theorem runInstruction_of_next {s t : State} (h : exec s.fetchInstr s.latched = .next t) :
    s.runInstruction = .next (s.latched.sampleAfter t) := by
  rw [State.runInstruction, h]

theorem runInstruction_of_refused {s : State} {r : Refusal}
    (h : exec s.fetchInstr s.latched = .refused r) : s.runInstruction = .refused r := by
  rw [State.runInstruction, h]

theorem sampleAfter_of_no_inputs (s : State) {t : State} (h : t.inputs = []) : s.sampleAfter t = t := by
  rw [State.sampleAfter, h]

/-- With no sample left the step is the execution alone: an instruction leaves the samples alone (log 17). -/
theorem runInstruction_of_no_inputs {s : State} (h : s.inputs = []) :
    s.runInstruction = exec s.fetchInstr s.latched := by
  cases he : exec s.fetchInstr s.latched with
  | next t =>
    have ht : t.inputs = [] := by rw [exec_inputs he, latched_inputs, h]
    rw [runInstruction_of_next he, sampleAfter_of_no_inputs _ ht]
  | fault f => cases f
  | refused r => exact runInstruction_of_refused he

/-- Settles O6: the step that fetches runs the decoded instruction on the latched state, and the sample
after it does nothing where no sample is left. -/
theorem stepExecutesTheDecodedInstruction : Obligations.StepExecutesTheDecodedInstruction := by
  intro s i rest hfetches hdecode
  rw [← fetchBytes_eq_map_readByte] at hdecode
  obtain rfl := fetchInstr_eq_of_decode hdecode
  rw [← latched_eq_readByte, step_eq_runInstruction hfetches]
  exact ⟨fun _ => runInstruction_of_next, fun _ => runInstruction_of_refused,
    runInstruction_of_no_inputs⟩

end Sys2Proof.Machine
end

section
/-! PROOFS. The operations of the state keep the invariant (spec 10_state.md R23, R25, R35), one lemma for
each, so that the invariant of an instruction is the chain of its updates. -/

namespace Sys2Proof.Machine

theorem extract_page1 (b : Byte) : (0x01#8 ++ b : Word16).extractLsb' 8 8 = 0x01#8 :=
  BitVec.extractLsb'_append_eq_left

/-- The narrow index width of R40: with P.X = 1 it is 8 in every mode. -/
theorem xw_eq_w8 {s : State} (h : s.flag .x = true) : s.xw = .w8 := by
  simp [State.xw, Config.indexWidth, h]

theorem moveWidth_eq_w8 {s : State} (h : s.flag .x = true) : s.moveWidth = .w8 := by
  simp [State.moveWidth, xw_eq_w8 h]

/-- The invariant looks at the mode, M and X, S, the index registers and memory alone. -/
theorem State.Inv.of_frame {s t : State} (h : s.Inv) (hemu : t.emu8 = s.emu8)
    (hm : t.flag .m = s.flag .m) (hx : t.flag .x = s.flag .x) (hsp : t.sp = s.sp)
    (hX : t.x = s.x) (hY : t.y = s.y) (hmem : t.mem.wf) : t.Inv := by
  obtain ⟨hforced, hindex, -⟩ := h
  refine ⟨?_, ?_, hmem⟩
  · rw [State.Emu8Forced, hemu, hm, hx, hsp]
    exact hforced
  · rw [State.IndexHighZero, hx, hX, hY]
    exact hindex

/-! ### Flags, PC, A and memory -/

theorem State.Inv.setFlag {s : State} (h : s.Inv) {f : Flag} (b : Bool) (hm : f ≠ .m)
    (hx : f ≠ .x) : (s.setFlag f b).Inv := by
  obtain ⟨-, -, hwf⟩ := id h
  exact h.of_frame (emu8_setFlag s f b) (by simp [hm.symm]) (by simp [hx.symm]) rfl rfl rfl hwf

theorem State.Inv.setNZ {s : State} (h : s.Inv) {n : Nat} (v : BitVec n) : (s.setNZ v).Inv :=
  (h.setFlag _ (by decide) (by decide)).setFlag _ (by decide) (by decide)

theorem State.Inv.setNVZC {s : State} (h : s.Inv) {n : Nat} (r : AluResult n) : (s.setNVZC r).Inv :=
  (((h.setFlag _ (by decide) (by decide)).setFlag _ (by decide) (by decide)).setFlag _ (by decide)
    (by decide)).setFlag _ (by decide) (by decide)

theorem State.Inv.setCompare {s : State} (h : s.Inv) {n : Nat} (a m : BitVec n) :
    (s.setCompare a m).Inv := (h.setNZ _).setFlag _ (by decide) (by decide)

theorem State.Inv.setBitZ {s : State} (h : s.Inv) {n : Nat} (a m : BitVec n) :
    (s.setBitZ a m).Inv := h.setFlag _ (by decide) (by decide)

theorem State.Inv.advance {s : State} (h : s.Inv) (len : Nat) : (s.advance len).Inv := h

theorem State.Inv.jump {s : State} (h : s.Inv) (target : Word16) : (s.jump target).Inv := h

theorem State.Inv.jumpLong {s : State} (h : s.Inv) (bank : Byte) (target : Word16) :
    (s.jumpLong bank target).Inv := h

theorem State.Inv.jumpTo24 {s : State} (h : s.Inv) (p : Long24) : (s.jumpTo24 p).Inv :=
  h.jumpLong _ _

theorem State.Inv.setD {s : State} (h : s.Inv) (v : Word16) : State.Inv { s with d := v } := h

theorem State.Inv.setDbr {s : State} (h : s.Inv) (v : Byte) : State.Inv { s with dbr := v } := h

theorem State.Inv.writeA {s : State} (h : s.Inv) (w : Width) (v : BitVec w.bits) :
    (s.writeA w v).Inv := by
  rw [writeA_eq]
  exact h

theorem State.Inv.putA {s : State} (h : s.Inv) (w : Width) (v : BitVec w.bits) : (s.putA w v).Inv :=
  (h.writeA w v).setNZ v

theorem State.Inv.writeByte {s : State} (h : s.Inv) (a : Nat) (v : Byte) : (s.writeByte a v).Inv := by
  obtain ⟨hforced, hindex, hwf⟩ := h
  exact ⟨hforced, hindex, wf_writeByte hwf a v⟩

theorem State.Inv.writeLE {s : State} (h : s.Inv) (l : Loc) (v n : Nat) : (s.writeLE l v n).Inv := by
  induction n with
  | zero => exact h
  | succ n ih => exact ih.writeByte _ _

theorem State.Inv.writeWidth {s : State} (h : s.Inv) (l : Loc) (w : Width) (v : BitVec w.bits) :
    (s.writeWidth l w v).Inv := h.writeLE l _ _

theorem State.Inv.writeTarget {s : State} (h : s.Inv) (t : Target) (w : Width) (v : BitVec w.bits) :
    (s.writeTarget t w v).Inv := by
  cases t with
  | acc => exact h.writeA w v
  | mem m => exact h.writeWidth _ w v

theorem State.Inv.shiftWriteBack {s : State} (h : s.Inv) (t : Target) (w : Width)
    (r : ShiftResult w.bits) : (shiftWriteBack t w r s).Inv :=
  (((h.writeTarget t w _).setNZ _).setFlag _ (by decide) (by decide)).advance _

/-! ### The index registers: with P.X = 1 they are written at 8 bits, which zeroes the upper bytes (R23) -/

theorem State.Inv.writeX {s : State} (h : s.Inv) {w : Width} (hw : s.flag .x = true → w = .w8)
    (v : BitVec w.bits) : (s.writeX w v).Inv := by
  obtain ⟨hforced, hindex, hwf⟩ := h
  obtain ⟨-, hhigh⟩ := writeX_spec s w v
  rw [writeX_eq]
  exact ⟨hforced, fun hx => ⟨hhigh (hw hx), (hindex hx).2⟩, hwf⟩

theorem State.Inv.writeY {s : State} (h : s.Inv) {w : Width} (hw : s.flag .x = true → w = .w8)
    (v : BitVec w.bits) : (s.writeY w v).Inv := by
  obtain ⟨hforced, hindex, hwf⟩ := h
  obtain ⟨-, hhigh⟩ := writeY_spec s w v
  rw [writeY_eq]
  exact ⟨hforced, fun hx => ⟨(hindex hx).1, hhigh (hw hx)⟩, hwf⟩

theorem State.Inv.putX {s : State} (h : s.Inv) {w : Width} (hw : s.flag .x = true → w = .w8)
    (v : BitVec w.bits) : (s.putX w v).Inv := (h.writeX hw v).setNZ v

theorem State.Inv.putY {s : State} (h : s.Inv) {w : Width} (hw : s.flag .x = true → w = .w8)
    (v : BitVec w.bits) : (s.putY w v).Inv := (h.writeY hw v).setNZ v

/-! ### S: in EMU8 every write of it lands in page 1 (R25) -/

theorem State.Inv.setSp {s : State} (h : s.Inv) {v : Word16}
    (hv : s.emu8 = true → v.extractLsb' 8 8 = 0x01#8) : State.Inv { s with sp := v } := by
  obtain ⟨hforced, hindex, hwf⟩ := h
  refine ⟨fun hemu => ?_, hindex, hwf⟩
  obtain ⟨hm, hx, -⟩ := hforced hemu
  exact ⟨hm, hx, hv hemu⟩

theorem State.Inv.writeS {s : State} (h : s.Inv) (v : Word16) : (s.writeS v).Inv :=
  h.setSp fun hemu => by rw [if_pos hemu, extract_page1]

theorem State.Inv.push8 {s : State} (h : s.Inv) (v : Byte) : (s.push8 v).Inv :=
  (h.writeByte _ v).setSp fun hemu => (congrArg _ (if_pos hemu)).trans (extract_page1 _)

theorem State.Inv.popped {s : State} (h : s.Inv) : s.popped.Inv :=
  h.setSp fun hemu => (congrArg _ (if_pos hemu)).trans (extract_page1 _)

theorem State.Inv.pushN {s : State} (h : s.Inv) (v n : Nat) : (s.pushN v n).Inv := by
  induction n generalizing s with
  | zero => exact h
  | succ n ih => exact ih (h.push8 _)

theorem State.Inv.pullN {s : State} (h : s.Inv) (n : Nat) : (s.pullN n).Inv := by
  induction n generalizing s with
  | zero => exact h
  | succ n ih => exact ih h.popped

/-! ### P as a whole, the mode switch, the interrupt sequence, RTI and reset -/

/-- `setP` forces M and X in EMU8 and clears the upper index bytes where X becomes 1 (R317). -/
theorem State.Inv.setP {s : State} (h : s.Inv) (v : Byte) : (s.setP v).Inv := by
  obtain ⟨hforced, -, hwf⟩ := h
  refine ⟨fun hemu => ?_, fun hx => ?_, hwf⟩
  · rw [emu8_setP] at hemu
    obtain ⟨-, -, hsp⟩ := hforced hemu
    exact ⟨by simp [setP_flag, hemu], by simp [setP_flag, hemu], hsp⟩
  · obtain ⟨hX, hY⟩ := setP_index s v
    rw [hX, hY, if_pos hx, if_pos hx]
    exact ⟨zeroUpper_high _, zeroUpper_high _⟩

/-- A mode switch restores the EMU8 forcing (R39), so it needs none before. -/
theorem inv_enterMode {s : State} (hindex : s.IndexHighZero) (hwf : s.mem.wf) : s.enterMode.Inv := by
  cases hemu : s.emu8 with
  | true =>
    rw [enterMode_emu8 hemu]
    refine ⟨fun _ => ⟨?_, ?_, extract_page1 _⟩,
      fun _ => ⟨zeroUpper_high _, zeroUpper_high _⟩, hwf⟩
    · exact (withFlag_bit _ .x .m true).trans (withFlag_bit _ .m .m true)
    · exact withFlag_bit _ .x .x true
  | false =>
    rw [enterMode_other hemu]
    exact ⟨fun h => absurd h (by simp [hemu]), hindex, hwf⟩

/-- A write of a flag other than X keeps the rule of the upper index bytes (R23). -/
theorem indexHighZero_setFlag {s : State} (h : s.IndexHighZero) {f : Flag} (b : Bool) (hf : f ≠ .x) :
    (s.setFlag f b).IndexHighZero :=
  fun hx => h (by simpa [hf.symm] using hx)

theorem State.Inv.pullItem {s : State} (h : s.Inv) (f : FrameItem) : (s.pullItem f).Inv := by
  cases f with
  | bank => exact h.popped
  | pcHigh => exact h.popped
  | pcLow => exact h.popped
  | status => exact h.popped.setP _

theorem State.Inv.pullFrame {s : State} (h : s.Inv) (fs : List FrameItem) : (s.pullFrame fs).Inv := by
  induction fs generalizing s with
  | nil => exact h
  | cons f fs ih => exact ih (h.pullItem f)

theorem State.Inv.returnFromInterrupt {s : State} (h : s.Inv) : s.returnFromInterrupt.Inv :=
  h.pullFrame _

theorem State.Inv.pushItem {s : State} (h : s.Inv) (ret : Word16) (status : Byte) (f : FrameItem) :
    (s.pushItem ret status f).Inv := by
  cases f <;> exact h.push8 _

theorem State.Inv.pushFrame {s : State} (h : s.Inv) (ret : Word16) (status : Byte)
    (fs : List FrameItem) : (s.pushFrame ret status fs).Inv := by
  induction fs generalizing s with
  | nil => exact h
  | cons f fs ih => exact ih (h.pushItem ret status f)

/-- The flags after an interrupt sequence: I is 1, D is 0 (60_exceptions.md R350). -/
theorem flag_takeInterrupt (s : State) (k : Interrupt) (ret : Word16) (f : Flag) :
    (s.takeInterrupt k ret).flag f = if f = .d then false else if f = .i then true else s.flag f := by
  obtain ⟨hp, -⟩ := takeInterrupt_registers s k ret
  rw [State.flag, hp, withFlag_bit, withFlag_bit, State.flag]

theorem State.Inv.takeInterrupt {s : State} (h : s.Inv) (k : Interrupt) (ret : Word16) :
    (s.takeInterrupt k ret).Inv := by
  have hframe := h.pushFrame ret (s.framedStatus k) (Config.frame s.mode)
  obtain ⟨-, -, hwf⟩ := id hframe
  exact hframe.of_frame (by simp) (by simp [flag_takeInterrupt]) (by simp [flag_takeInterrupt]) rfl
    (by simp) (by simp) hwf

/-- M, X, D and I after reset (R47). -/
theorem resetStatus_bits (nvzc : BitVec 4) :
    (resetStatus nvzc).getLsbD Flag.m.pos = true ∧ (resetStatus nvzc).getLsbD Flag.x.pos = true ∧
      (resetStatus nvzc).getLsbD Flag.d.pos = false ∧
      (resetStatus nvzc).getLsbD Flag.i.pos = true := by
  revert nvzc
  decide

theorem setWidth_byte_high (b : Byte) : (b.setWidth 32).extractLsb' 8 24 = 0#24 := by
  have h := zeroUpper_high (b.setWidth 32)
  rwa [zeroUpper, BitVec.setWidth_setWidth_of_le b (by decide)] at h

/-- The reset sequence ends in the invariant from every state with memory in canonical form (R392). -/
theorem inv_resetSequence {s : State} (hwf : s.mem.wf) : s.resetSequence.Inv := by
  obtain ⟨hm, hx, -⟩ := resetStatus_bits (Config.freeResetNVZC s.draw)
  exact ⟨fun _ => ⟨hm, hx, extract_page1 _⟩,
    fun _ => ⟨setWidth_byte_high _, setWidth_byte_high _⟩, hwf⟩

end Sys2Proof.Machine
end

section
/-! PROOFS. Every instruction and every step keeps the invariant, and the state after reset has it (spec
10_state.md R23, R25, R35, R47). -/

namespace Sys2Proof.Machine

theorem inv_of_branch {cond : Bool} {r8 : Byte} {s t : State} (h : s.Inv)
    (hr : branch cond r8 s = .next t) : t.Inv := by
  rw [branch_eq] at hr
  cases hr
  exact h

theorem inv_of_blockMove {delta : Word16} {dst src : Byte} {s t : State} (h : s.Inv)
    (hr : blockMove delta dst src s = .next t) : t.Inv := by
  obtain ⟨u, hu, hframe, hmem, hX, hY, -⟩ := blockMove_eq delta dst src s
  obtain ⟨hforced, -, hwf⟩ := h
  rw [hu] at hr
  cases hr
  have hhigh (hx : s.flag .x = true) : t.x.extractLsb' 8 24 = 0#24 ∧ t.y.extractLsb' 8 24 = 0#24 := by
    rw [hX, hY]
    exact ⟨(writeX_spec s _ _).2 (moveWidth_eq_w8 hx), (writeY_spec s _ _).2 (moveWidth_eq_w8 hx)⟩
  have hwritten : t.mem.wf := by
    rw [hmem]
    exact Memory.wf_write hwf _ _ (Nat.mod_lt _ (by decide))
  rw [hframe]
  exact ⟨hforced, hhigh, hwritten⟩

theorem inv_of_pushWord {v : Word16} {len : Nat} {s t : State} (h : s.Inv)
    (hr : pushWord v len s = .next t) : t.Inv := by
  obtain rfl := eq_of_unless_refused_eq_next hr
  exact (h.pushN _ _).advance _

/-- Every instruction keeps the invariant: its meaning is a chain of updates that each keep it. -/
theorem Runs.inv {i : Instr} {s t : State} {r : Result} (hruns : Runs s i r) (h : s.Inv)
    (hr : r = .next t) : t.Inv := by
  cases hruns
  case lda | and | ora | eor | txa | tya | tdc | tsc =>
    cases hr
    exact (h.putA _ _).advance _
  case ldx | tax | tyx | tsx | inx | dex =>
    cases hr
    exact (h.putX xw_eq_w8 _).advance _
  case ldy | tay | txy | iny | dey =>
    cases hr
    exact (h.putY xw_eq_w8 _).advance _
  case adc | sbc =>
    cases hr
    exact ((h.writeA _ _).setNVZC _).advance _
  case xba =>
    cases hr
    exact ((h.writeA .w16 _).setNZ _).advance _
  case cmp | cpx | cpy =>
    cases hr
    exact (h.setCompare _ _).advance _
  case inc | dec =>
    cases hr
    exact ((h.writeTarget _ _ _).setNZ _).advance _
  case asl | lsr | rol | ror =>
    cases hr
    exact h.shiftWriteBack _ _ _
  case sta | stx | sty | stz =>
    cases hr
    exact (h.writeWidth _ _ _).advance _
  case tsb | trb =>
    cases hr
    exact ((h.writeWidth _ _ _).setBitZ _ _).advance _
  case bit =>
    cases hr
    exact (((h.setBitZ _ _).setFlag _ (by decide) (by decide)).setFlag _ (by decide)
      (by decide)).advance _
  case bitImm =>
    cases hr
    exact (h.setBitZ _ _).advance _
  case clc | sec | cld | sed | cli | sei | clv =>
    cases hr
    exact (h.setFlag _ (by decide) (by decide)).advance _
  case rep | sep =>
    cases hr
    exact (h.setP _).advance _
  case tcs | txs =>
    cases hr
    exact (h.writeS _).advance _
  case tcd =>
    cases hr
    exact ((h.setD _).setNZ _).advance _
  case bcc | bcs | beq | bne | bmi | bpl | bvc | bvs | bra => exact inv_of_branch h hr
  case mvn | mvp => exact inv_of_blockMove h hr
  case pea | pei | per | phd => exact inv_of_pushWord h hr
  case php | phb | phk =>
    cases hr
    exact (h.push8 _).advance _
  case pha | phx | phy =>
    cases hr
    exact (h.pushN _ _).advance _
  case pla =>
    cases hr
    exact ((h.pullN _).putA _ _).advance _
  case plx =>
    cases hr
    exact ((h.pullN _).putX (by simpa using xw_eq_w8) _).advance _
  case ply =>
    cases hr
    exact ((h.pullN _).putY (by simpa using xw_eq_w8) _).advance _
  case plp =>
    cases hr
    exact (h.popped.setP _).advance _
  case plb =>
    obtain rfl := eq_of_unless_refused_eq_next hr
    exact ((h.popped.setDbr _).setNZ _).advance _
  case pld =>
    obtain rfl := eq_of_unless_refused_eq_next hr
    exact (((h.pullN 2).setD _).setNZ _).advance _
  case brl | jmpAbs | jmpAbsInd | jmpAbsIndX =>
    cases hr
    exact h.jump _
  case jmlLong | jmlAbsIndLong =>
    cases hr
    exact h.jumpTo24 _
  case jsrAbs =>
    cases hr
    exact (h.pushN _ _).jump _
  case jsrAbsIndX =>
    obtain rfl := eq_of_unless_refused_eq_next hr
    exact (h.pushN _ _).jump _
  case jsl =>
    obtain rfl := eq_of_unless_refused_eq_next hr
    exact ((h.push8 _).pushN _ _).jumpTo24 _
  case rts =>
    cases hr
    exact (h.pullN 2).jump _
  case rtl =>
    obtain rfl := eq_of_unless_refused_eq_next hr
    exact (h.pullN 2).popped.jumpLong _ _
  case brk | cop =>
    cases hr
    exact h.takeInterrupt _ _
  case rti =>
    cases hr
    exact h.returnFromInterrupt
  case xce =>
    obtain ⟨-, hindex, hwf⟩ := h
    have hswitched : State.IndexHighZero { s with e8 := s.flag .c } := hindex
    cases hr
    exact (inv_enterMode (indexHighZero_setFlag hswitched (f := .c) _ (by decide)) hwf).advance _
  case xfe =>
    obtain ⟨-, hindex, hwf⟩ := h
    have hswitched : State.IndexHighZero { s with e8 := s.flag .c, e16 := s.flag .v } := hindex
    have hcarry := indexHighZero_setFlag hswitched (f := .c) s.e8 (by decide)
    cases hr
    exact (inv_enterMode (indexHighZero_setFlag hcarry (f := .v) _ (by decide)) hwf).advance _
  case wai | stp | nop | wdm =>
    cases hr
    exact h

/-! ### The step -/

/-- A sample moves the input latches, or RES- resets (60_exceptions.md R342 to R345). -/
theorem State.Inv.latchPins {s : State} (h : s.Inv) (pin : PinSample) : (s.latchPins pin).Inv := by
  obtain ⟨-, -, hwf⟩ := id h
  unfold State.latchPins
  split
  · exact inv_resetSequence hwf
  · exact h

theorem State.Inv.sample {s : State} (h : s.Inv) : s.sample.Inv := by
  unfold State.sample
  split
  · exact h
  · next pin rest _ => exact State.Inv.latchPins (s := { s with inputs := rest }) h pin

theorem State.Inv.sampleStopped {s : State} (h : s.Inv) : s.sampleStopped.Inv := by
  obtain ⟨-, -, hwf⟩ := id h
  unfold State.sampleStopped
  split
  · exact h
  · split
    · exact inv_resetSequence hwf
    · exact h

/-- An instruction that ABORT- hit leaves the registers of before and memory of before or after
(R345, R362). -/
theorem State.Inv.abortEffect {before after : State} (hb : before.Inv) (ha : after.Inv)
    (abort : AbortPulse) : (before.abortEffect after abort).Inv := by
  obtain ⟨hforced, hindex, -⟩ := id hb
  obtain ⟨-, -, hwf⟩ := id ha
  cases abort with
  | none => exact ha
  | writesBlocked => exact hb
  | writesLand => exact ⟨hforced, hindex, hwf⟩

theorem State.Inv.sampleAfter {before after : State} (hb : before.Inv) (ha : after.Inv) :
    (before.sampleAfter after).Inv := by
  unfold State.sampleAfter
  split
  · exact ha
  · next pin rest _ =>
    exact State.Inv.latchPins (s := { before.abortEffect after pin.abort with inputs := rest })
      (hb.abortEffect ha pin.abort) pin

/-- Settles O10: each of the four ways a step can go keeps the invariant. -/
theorem everyStepKeepsTheInvariant : Obligations.EveryStepKeepsTheInvariant := by
  intro s t h hstep
  have hlatched : s.latched.Inv := h
  rcases step_cases hstep with ⟨-, rfl⟩ | ⟨k, -, -, rfl⟩ | ⟨-, -, -, rfl⟩ | ⟨-, -, -, u, hexec, rfl⟩
  · exact h.sampleStopped
  · exact (h.takeInterrupt k _).sample
  · exact State.Inv.sample (s := s.waitTick) h
  · exact hlatched.sampleAfter ((runs s.latched s.fetchInstr).inv hlatched hexec)

/-- Settles O9: the reset table forces what the invariant asks for, and memory is empty. -/
theorem resetStateSatisfiesTheInvariant : Obligations.ResetStateSatisfiesTheInvariant := by
  have hforced : State.reset.Emu8Forced := fun _ => by decide
  have hindex : State.reset.IndexHighZero := fun _ => by decide
  exact ⟨hforced, hindex, wf_reset⟩

end Sys2Proof.Machine
end

section
/-! PROOFS. Which instructions change the bank registers, D, the mode and the wait and stop latches (spec
10_state.md R26 to R28, R37, R44). -/

namespace Sys2Proof.Machine

/-- A register is as before, or `i` is an instruction that the spec names as a writer of it: PBR (R28),
E8 and E16 (R37), DBR (R27), D (R26), and the wait and stop latches (R44), of which the first is also
cleared by the interrupt sequence of BRK and COP. -/
def WritersNamed (i : Instr) (s t : State) : Prop :=
  (t.pbr = s.pbr ∨ i.mnemonic ∈ [.rti, .rtl, .jml, .jsl, .brk, .cop]) ∧
    (t.e8 = s.e8 ∨ i.mnemonic ∈ [.xce, .xfe]) ∧ (t.e16 = s.e16 ∨ i.mnemonic = .xfe) ∧
    (t.dbr = s.dbr ∨ i.mnemonic ∈ [.plb, .mvn, .mvp]) ∧ (t.d = s.d ∨ i.mnemonic ∈ [.tcd, .pld]) ∧
    (t.stopped = s.stopped ∨ i = .stp) ∧ (t.waiting = s.waiting ∨ t.waiting = false ∨ i = .wai)

/-- An instruction that writes none of these registers needs no name. -/
theorem writersNamed_of_kept {i : Instr} {s t : State} (hpbr : t.pbr = s.pbr) (he8 : t.e8 = s.e8)
    (he16 : t.e16 = s.e16) (hdbr : t.dbr = s.dbr) (hd : t.d = s.d) (hstopped : t.stopped = s.stopped)
    (hwaiting : t.waiting = s.waiting) : WritersNamed i s t :=
  ⟨.inl hpbr, .inl he8, .inl he16, .inl hdbr, .inl hd, .inl hstopped, .inl hwaiting⟩

theorem writersNamed_of_pushWord {i : Instr} {v : Word16} {len : Nat} {s t : State}
    (h : pushWord v len s = .next t) : WritersNamed i s t := by
  obtain rfl := eq_of_unless_refused_eq_next h
  simp [writersNamed_of_kept]

theorem writersNamed_of_branch {i : Instr} {cond : Bool} {r8 : Byte} {s t : State}
    (h : branch cond r8 s = .next t) : WritersNamed i s t := by
  rw [branch_eq] at h
  cases h
  exact writersNamed_of_kept rfl rfl rfl rfl rfl rfl rfl

/-- A block move writes DBR and none of the others (R327). -/
theorem writersNamed_of_blockMove {i : Instr} {delta : Word16} {dst src : Byte} {s t : State}
    (hi : i.mnemonic ∈ [.plb, .mvn, .mvp]) (h : blockMove delta dst src s = .next t) :
    WritersNamed i s t := by
  obtain ⟨u, hu, hframe, -⟩ := blockMove_eq delta dst src s
  rw [hu] at h
  cases h
  rw [hframe]
  exact ⟨.inl rfl, .inl rfl, .inl rfl, .inr hi, .inl rfl, .inl rfl, .inl rfl⟩

/-- Every instruction is a named writer of what it changes of these registers. -/
theorem Runs.writersNamed {i : Instr} {s t : State} {r : Result} (h : Runs s i r)
    (hr : r = .next t) : WritersNamed i s t := by
  cases h
  case bcc | bcs | beq | bne | bmi | bpl | bvc | bvs | bra => exact writersNamed_of_branch hr
  case mvn | mvp => exact writersNamed_of_blockMove (by simp [Instr.mnemonic]) hr
  case pea | pei | per | phd => exact writersNamed_of_pushWord hr
  case plb | pld | jsl | jsrAbsIndX | rtl =>
    obtain rfl := eq_of_unless_refused_eq_next hr
    simp [WritersNamed, Instr.mnemonic]
  case brk | cop =>
    cases hr
    simp [WritersNamed, Instr.mnemonic, State.takeInterrupt]
  case rti | jmlLong | jmlAbsIndLong | xce | xfe | tcd | wai | stp =>
    cases hr
    simp [WritersNamed, Instr.mnemonic]
  all_goals
    cases hr
    apply writersNamed_of_kept <;> simp [shiftWriteBack]

theorem exec_writersNamed {i : Instr} {s t : State} (h : exec i s = .next t) : WritersNamed i s t :=
  (runs s i).writersNamed h

/-- Settles O55. -/
theorem onlyLongTransfersChangeTheProgramBank : Obligations.OnlyLongTransfersChangeTheProgramBank := by
  intro i s t h hne
  obtain ⟨hpbr, -⟩ := exec_writersNamed h
  exact hpbr.resolve_left hne

/-- Settles O56. -/
theorem onlyNamedInstructionsChangeModeAndBankRegisters :
    Obligations.OnlyNamedInstructionsChangeModeAndBankRegisters := by
  intro i s t h
  obtain ⟨-, he8, he16, hdbr, hd, -⟩ := exec_writersNamed h
  exact ⟨he8.resolve_left, he16.resolve_left, hdbr.resolve_left, hd.resolve_left⟩

/-- Settles O58: the input state is kept by every instruction, and STP and WAI are the named writers of
their latches. -/
theorem instructionsLeaveTheInputStateAlone : Obligations.InstructionsLeaveTheInputStateAlone := by
  intro i s t h
  obtain ⟨hinputs, hirq, hnmi, habort, hir, hdraw⟩ := (runs s i).inputStateKept h
  obtain ⟨-, -, -, -, -, hstopped, hwaiting⟩ := exec_writersNamed h
  refine ⟨hinputs, hirq, hnmi, habort, hir, hdraw, hstopped.resolve_left, fun hafter hbefore => ?_⟩
  have hchanged : t.waiting ≠ s.waiting := by simp [hafter, hbefore]
  exact (hwaiting.resolve_left hchanged).resolve_left (by simp [hafter])

end Sys2Proof.Machine
end

section
/-! PROOFS. The values of the reset table and of the width table (spec 10_state.md R30, R38, R40, R47). -/

namespace Sys2Proof.Machine

open Sys2Proof.Claims

/-- Settles O7: the state after reset is a constant, and its PC is two unlisted bytes of memory. -/
theorem resetStateHoldsTheResetTable : Obligations.ResetStateHoldsTheResetTable := by
  unfold Obligations.ResetStateHoldsTheResetTable ResetDone
  decide

/-- EMU8: every width is 8, whatever M and X are (R38, R40). -/
theorem mode_widths_emu8 {s : State} (he16 : s.e16 = true) (he8 : s.e8 = true) :
    s.mode = .emu8 ∧ s.mw = .w8 ∧ s.xw = .w8 := by
  simp [State.mode, State.mw, State.xw, Config.accWidth, Config.indexWidth, he16, he8]

/-- EMU16: the wide width is 16 (R38, R40). -/
theorem mode_widths_emu16 {s : State} (he16 : s.e16 = true) (he8 : s.e8 = false) :
    s.mode = .emu16 ∧ s.mw = widthFor (s.flag .m) .w16 ∧ s.xw = widthFor (s.flag .x) .w16 := by
  simp [State.mode, State.mw, State.xw, Config.accWidth, Config.indexWidth, widthFor, he16, he8]

/-- NATIVE: the wide width of the index registers is 32, that of A 32 or 16 by E8 (R38, R40, D5). -/
theorem mode_widths_native {s : State} (he16 : s.e16 = false) :
    s.mode = .native ∧ s.mw = widthFor (s.flag .m) (if s.e8 = true then .w32 else .w16) ∧
      s.xw = widthFor (s.flag .x) .w32 := by
  simp [State.mode, State.mw, State.xw, Config.accWidth, Config.indexWidth, widthFor, he16]

/-- Settles O59: the flags are where `Flag.pos` puts them, and each mode has its row of the width table. -/
theorem widthsFollowTheModeAndFlags : Obligations.WidthsFollowTheModeAndFlags := by
  intro s
  have hemu8 : s.emu8 = true ↔ s.e16 = true ∧ s.e8 = true := by simp [State.emu8]
  exact ⟨⟨rfl, rfl, rfl, rfl, rfl, rfl, rfl, rfl⟩, hemu8, mode_widths_emu8, mode_widths_emu16,
    mode_widths_native, rfl, rfl, Width.bits_eq⟩

end Sys2Proof.Machine
end

section
/-! PROOFS. Memory and operand values (spec 20_memory.md R79, 40_addressing_modes.md R131, R132, R148):
what a write of a width leaves in memory, and what a source and a target are as numbers. -/

namespace Sys2Proof.Machine

open Sys2Proof.Claims

theorem Width.bytes_le (w : Width) : w.bytes ≤ 256 := by cases w <;> decide

/-- The bytes of a value lie where it was written, the least significant first (R79). -/
theorem holds_writeWidth (s : State) (l : Loc) (w : Width) (v : BitVec w.bits) :
    Holds (s.writeWidth l w v) l.addr w.bytes v.toNat :=
  (readByte_writeLE s l v.toNat w.bytes (Width.bytes_le w)).1

/-- A write leaves every byte outside its operand as it was (R131). -/
theorem memoryKeptOutside_writeWidth (s : State) (l : Loc) (w : Width) (v : BitVec w.bits) :
    MemoryKeptOutside s (s.writeWidth l w v) l.addr w.bytes :=
  (readByte_writeLE s l v.toNat w.bytes (Width.bytes_le w)).2

theorem toNat_readWidth_eq_bytesAt (s : State) (l : Loc) (w : Width) :
    (s.readWidth l w).toNat = bytesAt s l.addr w.bytes := by
  rw [toNat_readWidth, readLE_eq]

theorem toNat_sourceValue_imm (s : State) (imm : Word32) (w : Width) :
    (s.sourceValue (.imm imm) w).toNat = imm.toNat % 2 ^ w.bits :=
  BitVec.toNat_setWidth w.bits imm

theorem toNat_targetValue_acc (s : State) (w : Width) :
    (s.targetValue .acc w).toNat = s.a.toNat % 2 ^ w.bits :=
  BitVec.toNat_setWidth w.bits s.a

/-- A memory operand is the same number as a source and as a target: its bytes, little-endian (R131). -/
theorem toNat_sourceValue_mem (s : State) (m : AddrMode) (w : Width) :
    (s.sourceValue (.mem m) w).toNat = bytesAt s (s.locate m).addr w.bytes :=
  toNat_readWidth_eq_bytesAt s (s.locate m) w

theorem toNat_targetValue_mem (s : State) (m : AddrMode) (w : Width) :
    (s.targetValue (.mem m) w).toNat = bytesAt s (s.locate m).addr w.bytes :=
  toNat_readWidth_eq_bytesAt s (s.locate m) w

/-- Settles O11: the laws of a read and a write of a width, and the source and target each operand names. -/
theorem storedValueIsReadBackLittleEndian : Obligations.StoredValueIsReadBackLittleEndian := by
  intro s l w v m imm
  exact ⟨readWidth_writeWidth s l w v, holds_writeWidth s l w v, toNat_readWidth_eq_bytesAt s l w,
    memoryKeptOutside_writeWidth s l w v, rfl, rfl, rfl, rfl, rfl, toNat_sourceValue_imm s imm w,
    toNat_sourceValue_mem s m w, toNat_targetValue_mem s m w, toNat_targetValue_acc s w⟩

end Sys2Proof.Machine
end

section
/-! PROOFS. The encoding (spec 30_encoding.md R101 to R107, R112): what the matrix gives for each opcode,
what an operand read from bytes encodes to, and the two round trips assembled from these. -/

namespace Sys2Proof

open Sys2Proof.Claims

/-! ### The cells of the opcode matrix -/

/-- The row and the column of an opcode in the matrix (30_encoding.md R104). -/
theorem exists_hex_digits (op : Byte) :
    ∃ row column : Fin 16, op = BitVec.ofNat 8 (16 * row + column) :=
  ⟨⟨op.toNat / 16, by omega⟩, ⟨op.toNat % 16, by omega⟩, BitVec.eq_of_toNat_eq (by simp; omega)⟩

/-- The addressed operand of the same mode whose value is read from the bytes `o`. -/
def AddrMode.readFrom (o : OperandBytes) : AddrMode → AddrMode
  | .abs _ => .abs o.a16
  | .absX _ => .absX o.a16
  | .absY _ => .absY o.a16
  | .long _ => .long o.a24
  | .longX _ => .longX o.a24
  | .dir _ => .dir o.b1
  | .dirX _ => .dirX o.b1
  | .dirY _ => .dirY o.b1
  | .ind _ => .ind o.b1
  | .indX _ => .indX o.b1
  | .indY _ => .indY o.b1
  | .indLong _ => .indLong o.b1
  | .indLongY _ => .indLongY o.b1
  | .sr _ => .sr o.b1
  | .srIndY _ => .srIndY o.b1

/-- The operand of the same form whose value is read from the bytes `o` (30_encoding.md R101, R103). -/
def Operand.readFrom (w : Widths) (o : OperandBytes) : Operand → Operand
  | .implied => .implied
  | .stack => .stack
  | .acc => .acc
  | .signature _ => .signature o.b1
  | .ignored _ => .ignored o.b1
  | .immA _ => .immA (o.imm w.mw)
  | .immX _ => .immX (o.imm w.xw)
  | .imm8 _ => .imm8 o.b1
  | .addr m => .addr (m.readFrom o)
  | .absInd _ => .absInd o.a16
  | .absIndX _ => .absIndX o.a16
  | .absIndLong _ => .absIndLong o.a16
  | .rel _ => .rel o.b1
  | .relLong _ => .relLong o.a16
  | .blockMove _ _ => .blockMove o.b1 o.b2

/-- The cell of an opcode holds an instruction of that opcode, whose operand is read from the bytes that
follow; XFE has no cell of its own (R104, R106). -/
theorem decodeMatrix_cell (w : Widths) (o : OperandBytes) (op : Byte) :
    (decodeMatrix w o op).opcode = op ∧ decodeMatrix w o op ≠ .xfe ∧
      (decodeMatrix w o op).operand.readFrom w o = (decodeMatrix w o op).operand := by
  obtain ⟨row, column, rfl⟩ := exists_hex_digits op
  fin_cases row <;> fin_cases column <;> exact ⟨rfl, nofun, rfl⟩

/-- Every instruction but XFE is read back from its operand's bytes at its own opcode: the lemmas of
`Laws.OperandReadBack`, one for each constructor of `Instr` in the order of its declaration. -/
theorem decodeMatrix_encode (i : Instr) : Laws.OperandReadBack.Statement i :=
  open Laws.OperandReadBack in
  i.casesOn (motive := Statement)
    brk oraIndX cop oraSr tsbDir oraDir aslDir oraIndLong oraImm tsbAbs oraAbs aslAbs oraLong bpl
    oraIndY oraInd oraSrIndY trbDir oraDirX aslDirX oraIndLongY oraAbsY trbAbs oraAbsX aslAbsX oraLongX
    jsrAbs andIndX jsl andSr bitDir andDir rolDir andIndLong andImm bitAbs andAbs rolAbs andLong bmi
    andIndY andInd andSrIndY bitDirX andDirX rolDirX andIndLongY andAbsY bitAbsX andAbsX rolAbsX
    andLongX eorIndX eorSr mvp eorDir lsrDir eorIndLong eorImm jmpAbs eorAbs lsrAbs eorLong bvc eorIndY
    eorInd eorSrIndY mvn eorDirX lsrDirX eorIndLongY eorAbsY jmlLong eorAbsX lsrAbsX eorLongX adcIndX
    per adcSr stzDir adcDir rorDir adcIndLong adcImm jmpAbsInd adcAbs rorAbs adcLong bvs adcIndY adcInd
    adcSrIndY stzDirX adcDirX rorDirX adcIndLongY adcAbsY jmpAbsIndX adcAbsX rorAbsX adcLongX bra
    staIndX brl staSr styDir staDir stxDir staIndLong bitImm styAbs staAbs stxAbs staLong bcc staIndY
    staInd staSrIndY styDirX staDirX stxDirY staIndLongY staAbsY stzAbs staAbsX stzAbsX staLongX ldyImm
    ldaIndX ldxImm ldaSr ldyDir ldaDir ldxDir ldaIndLong ldaImm ldyAbs ldaAbs ldxAbs ldaLong bcs
    ldaIndY ldaInd ldaSrIndY ldyDirX ldaDirX ldxDirY ldaIndLongY ldaAbsY ldyAbsX ldaAbsX ldxAbsY
    ldaLongX cpyImm cmpIndX rep cmpSr cpyDir cmpDir decDir cmpIndLong cmpImm cpyAbs cmpAbs decAbs
    cmpLong bne cmpIndY cmpInd cmpSrIndY pei cmpDirX decDirX cmpIndLongY cmpAbsY jmlAbsIndLong cmpAbsX
    decAbsX cmpLongX cpxImm sbcIndX sep sbcSr cpxDir sbcDir incDir sbcIndLong sbcImm cpxAbs sbcAbs
    incAbs sbcLong beq sbcIndY sbcInd sbcSrIndY pea sbcDirX incDirX sbcIndLongY sbcAbsY jsrAbsIndX
    sbcAbsX incAbsX sbcLongX wdm php aslAcc phd clc incAcc tcs plp rolAcc pld sec decAcc tsc rti xfe
    pha lsrAcc phk cli phy tcd rts pla rorAcc rtl sei ply tdc dey txa phb tya txs txy tay tax plb clv
    tsx tyx iny dex wai cld phx stp inx nop xba sed plx xce

/-! ### Decoding the bytes of an instruction -/

/-- The opcode byte and the operand's bytes of a well-formed instruction decode to it (R103, R106). -/
theorem decodeOpWith_encode {xfe : Option Byte} {w : Widths} {i : Instr}
    (h : WellFormedWith xfe w i = true) (rest : List Byte) :
    decodeOpWith xfe w (i.opcodeWith xfe) (.ofRest (i.operand.encode w ++ rest)) = i := by
  obtain ⟨hfits, havailable⟩ := (Bool.and_eq_true _ _).mp h
  by_cases hi : i = .xfe
  · subst hi
    obtain ⟨op, rfl⟩ := Option.isSome_iff_exists.mp havailable
    simp [decodeOpWith, Instr.opcodeWith]
  · have hopcode : xfe ≠ some i.opcode := by simpa [Instr.available, hi] using havailable
    rw [decodeOpWith, Instr.opcodeWith, if_neg hi, if_neg hopcode]
    exact decodeMatrix_encode i w rest hi hfits

/-- Settles O1: the instruction is read back, and its operand takes exactly its own bytes. -/
theorem decodeOfEncodeIsTheInstruction : Obligations.DecodeOfEncodeIsTheInstruction := by
  intro xfe w i rest h
  simp [encodeWith, decodeWith, decodeOpWith_encode h, ← length_encode]

/-! ### Encoding the instruction that was read -/

/-- The first byte of a list, where it has one. -/
theorem singleton_b1_ofRest {r : List Byte} (h : 1 ≤ r.length) :
    [(OperandBytes.ofRest r).b1] = r.take 1 := by
  cases r with
  | nil => simp at h
  | cons b r => rfl

/-- The first two bytes of a list, where it has them. -/
theorem pair_ofRest {r : List Byte} (h : 2 ≤ r.length) :
    [(OperandBytes.ofRest r).b1, (OperandBytes.ofRest r).b2] = r.take 2 := by
  match r, h with
  | _ :: _ :: _, _ => rfl

theorem AddrMode.encode_readFrom {r : List Byte} (m : AddrMode) (h : m.size ≤ r.length) :
    (m.readFrom (.ofRest r)).encode = r.take m.size := by
  cases m with
  | abs _ | absX _ | absY _ => exact lowBytes_a16 r h
  | long _ | longX _ => exact lowBytes_a24 r h
  | _ => exact singleton_b1_ofRest h

/-- An operand read from bytes encodes to those bytes (R103). -/
theorem Operand.encode_readFrom {w : Widths} {r : List Byte} (x : Operand) (h : x.size w ≤ r.length) :
    (x.readFrom w (.ofRest r)).encode w = r.take (x.size w) := by
  cases x with
  | implied | stack | acc => rfl
  | signature _ | ignored _ | imm8 _ | rel _ => exact singleton_b1_ofRest h
  | immA _ => exact (lowBytes_imm r w.mw h).1
  | immX _ => exact (lowBytes_imm r w.xw h).1
  | addr m => exact m.encode_readFrom h
  | absInd _ | absIndX _ | absIndLong _ | relLong _ => exact lowBytes_a16 r h
  | blockMove _ _ => exact pair_ofRest h

/-- An immediate read from the bytes of its width fits that width (R102). -/
theorem Operand.fits_readFrom {w : Widths} {r : List Byte} (x : Operand) (h : x.size w ≤ r.length) :
    (x.readFrom w (.ofRest r)).fits w = true := by
  cases x with
  | immA _ => exact decide_eq_true (lowBytes_imm r w.mw h).2
  | immX _ => exact decide_eq_true (lowBytes_imm r w.xw h).2
  | _ => rfl

/-- The instruction of an opcode byte is available under that opcode, and its operand is read from the
bytes that follow (R106). -/
theorem decodeOpWith_cell (xfe : Option Byte) (w : Widths) (op : Byte) (o : OperandBytes) :
    (decodeOpWith xfe w op o).opcodeWith xfe = op ∧ (decodeOpWith xfe w op o).available xfe = true ∧
      (decodeOpWith xfe w op o).operand.readFrom w o = (decodeOpWith xfe w op o).operand := by
  by_cases hxfe : xfe = some op
  · rw [decodeOpWith, if_pos hxfe, hxfe]
    exact ⟨rfl, rfl, rfl⟩
  · obtain ⟨hopcode, hne, hread⟩ := decodeMatrix_cell w o op
    simp [decodeOpWith, hxfe, Instr.opcodeWith, Instr.available, hne, hopcode, hread]

/-- What a decode that succeeds has read: an opcode byte, and an operand that the list holds whole
(R112). -/
theorem decodeWith_cons_eq_ok {xfe : Option Byte} {w : Widths} {op : Byte} {r rest : List Byte}
    {i : Instr} (h : decodeWith xfe w (op :: r) = .ok (i, rest)) :
    decodeOpWith xfe w op (.ofRest r) = i ∧ i.operand.size w ≤ r.length ∧
      r.drop (i.operand.size w) = rest := by
  simp only [decodeWith] at h
  split at h
  · cases h
  · next hsize =>
    cases h
    exact ⟨rfl, Nat.le_of_not_lt hsize, rfl⟩

/-- Settles O2: the operand's bytes are the front of what follows the opcode. -/
theorem decodedBytesAreTheEncoding : Obligations.DecodedBytesAreTheEncoding := by
  intro xfe w bytes i rest h
  cases bytes with
  | nil => cases h
  | cons op r =>
    obtain ⟨rfl, hsize, rfl⟩ := decodeWith_cons_eq_ok h
    obtain ⟨hopcode, havailable, hread⟩ := decodeOpWith_cell xfe w op (.ofRest r)
    have hfits := Operand.fits_readFrom _ hsize
    have hencode := Operand.encode_readFrom _ hsize
    rw [hread] at hfits hencode
    simp [WellFormedWith, hfits, havailable, encodeWith, hopcode, hencode]

/-! ### The opcode table at the default `XFE_OPCODE` (log 6) -/

/-- XFE's own opcode is the default `XFE_OPCODE`. -/
theorem Instr.opcodeWith_xfeOpcode (i : Instr) : i.opcodeWith Config.xfeOpcode = i.opcode := by
  rw [Instr.opcodeWith]
  split
  · next hxfe => rw [hxfe]; rfl
  · rfl

/-- The instruction of an opcode byte has that opcode, and it is not WDM, whose cell XFE takes (R106). -/
theorem decodeOp_cell (w : Widths) (o : OperandBytes) (op : Byte) :
    (decodeOp w op o).opcode = op ∧ ∀ skip, decodeOp w op o ≠ .wdm skip := by
  obtain ⟨hopcode, havailable, -⟩ := decodeOpWith_cell Config.xfeOpcode w op o
  refine ⟨?_, fun skip hwdm => ?_⟩
  · rwa [Instr.opcodeWith_xfeOpcode] at hopcode
  · rw [← decodeOp, hwdm] at havailable
    cases havailable

/-- The matrix has the mnemonic and the format of an instruction in the cell of its opcode (R104). -/
theorem matrix_opcode (i : Instr) (h : ∀ skip, i ≠ .wdm skip) :
    (matrix.getD (i.opcode.toNat / 16) [])[i.opcode.toNat % 16]? = some (i.mnemonic, i.format) := by
  cases i with
  | wdm skip => exact absurd rfl (h skip)
  | _ => dsimp only [Instr.opcode]; rfl

/-- Settles O3: the byte decodes to an instruction of that opcode, which stands in that cell. -/
theorem everyOpcodeDecodesToItsMatrixCell : Obligations.EveryOpcodeDecodesToItsMatrixCell := by
  intro w o op
  obtain ⟨hopcode, hwdm⟩ := decodeOp_cell w o op
  have hcell := matrix_opcode _ hwdm
  rwa [hopcode] at hcell

/-- The bytes that follow an opcode: `mb` after the accumulator immediates, `xb` after the index
immediates, and after any other opcode as many as at reset (R102). -/
def operandBytesAfter (w : Widths) (op : Byte) : Nat :=
  if op ∈ [0x09#8, 0x29#8, 0x49#8, 0x69#8, 0x89#8, 0xA9#8, 0xC9#8, 0xE9#8] then w.mw.bytes
  else if op ∈ [0xA0#8, 0xA2#8, 0xC0#8, 0xE0#8] then w.xw.bytes
  else (decodeOp .atReset op (.ofRest [])).operand.size .atReset

theorem operandBytesAfter_opcode (w : Widths) (i : Instr) (h : ∀ skip, i ≠ .wdm skip) :
    i.operand.size w = operandBytesAfter w i.opcode := by
  cases i with
  | wdm skip => exact absurd rfl (h skip)
  | _ => dsimp only [Instr.opcode]; rfl

theorem length_decodeOp (w : Widths) (o : OperandBytes) (op : Byte) :
    (decodeOp w op o).length w = 1 + operandBytesAfter w op := by
  obtain ⟨hopcode, hwdm⟩ := decodeOp_cell w o op
  rw [Instr.length, operandBytesAfter_opcode w _ hwdm, hopcode]

/-- Settles O4: the length is that of the opcode, which depends on the widths in the twelve immediates
alone. -/
theorem immediateLengthFollowsTheWidths : Obligations.ImmediateLengthFollowsTheWidths := by
  intro w w' o o' op
  rw [length_decodeOp, length_decodeOp]
  unfold operandBytesAfter
  split_ifs <;> rfl

/-- Settles O5: each word is decoded by evaluation. -/
theorem writtenOutWordsDecode : Obligations.WrittenOutWordsDecode := ⟨rfl, rfl, rfl, rfl, rfl⟩

end Sys2Proof
end

section
/-! PROOFS. Where the bytes of an operand lie (spec 40_addressing_modes.md R131, R133 to R147, R157): each
kind of location, base and pointer as a number, and the addressing modes assembled from these. -/

namespace Sys2Proof.Machine

open Sys2Proof.Claims

/-! ### Locations and indexes as numbers -/

/-- A Bank 0 location wraps in Bank 0 (R131 (a), (d)). -/
theorem addr_bank0 (off : Word16) (k : Nat) : (Loc.bank0 off).addr k = (off.toNat + k) % 65536 := by
  simp [Loc.addr, BitVec.toNat_add]

/-- A page location wraps in its page (R157). -/
theorem addr_page (hi lo : Byte) (k : Nat) :
    (Loc.page hi lo).addr k = hi.toNat * 256 + (lo.toNat + k) % 256 := by
  simp [Loc.addr, toNat_append16, BitVec.toNat_add]

/-- A location of the linear data space wraps at the end of the address space (R131 (b)). -/
theorem addr_linear_mod (ea k : Nat) :
    (Loc.linear (ea % Config.addrSpace)).addr k = (ea + k) % 2 ^ 24 :=
  Nat.mod_add_mod ea Config.addrSpace k

theorem indexX_eq (s : State) : s.indexX = indexOfX s := BitVec.toNat_setWidth s.xw.bits s.x

theorem indexY_eq (s : State) : s.indexY = indexOfY s := BitVec.toNat_setWidth s.xw.bits s.y

/-- The low byte of a word is the word modulo 256. -/
theorem setWidth8_eq_zero_iff (d : Word16) : d.setWidth 8 = 0x00#8 ↔ d.toNat % 256 = 0 := by
  simp [BitVec.toNat_eq]

/-! ### The bases of the addressing modes -/

theorem addr_dataLoc (s : State) (off : Word16) (index k : Nat) :
    (s.dataLoc off index).addr k = (s.dbr.toNat * 65536 + off.toNat + index + k) % 2 ^ 24 :=
  addr_linear_mod _ k

/-- An operand in the data bank without an index (R133, R141). -/
theorem addr_dataLoc_zero (s : State) (off : Word16) (k : Nat) :
    (s.dataLoc off 0).addr k = (s.dbr.toNat * 65536 + off.toNat + k) % 2 ^ 24 := by
  rw [addr_dataLoc, Nat.add_zero]

theorem addr_longLoc (base : Long24) (index k : Nat) :
    (longLoc base index).addr k = (base.toNat + index + k) % 2 ^ 24 :=
  addr_linear_mod _ k

/-- An operand at a 24-bit address without an index (R139, R144). -/
theorem addr_longLoc_zero (base : Long24) (k : Nat) :
    (longLoc base 0).addr k = (base.toNat + k) % 2 ^ 24 := by
  rw [addr_longLoc, Nat.add_zero]

/-- The sum of a 16-bit register and an offset byte, in Bank 0 (R134, R144, R146). -/
theorem addr_bank0_add (base : Word16) (d8 : Byte) (k : Nat) :
    (Loc.bank0 (base + d8.setWidth 16)).addr k = (base.toNat + d8.toNat + k) % 65536 := by
  rw [addr_bank0, BitVec.toNat_add, BitVec.toNat_setWidth]
  omega

theorem addr_directLocFlat (s : State) (d8 : Byte) (k : Nat) :
    (s.directLocFlat d8).addr k = (s.d.toNat + d8.toNat + k) % 65536 := addr_bank0_add s.d d8 k

theorem addr_stackLoc (s : State) (d8 : Byte) (k : Nat) :
    (s.stackLoc d8).addr k = (s.sp.toNat + d8.toNat + k) % 65536 := addr_bank0_add s.sp d8 k

theorem directPage_iff (s : State) :
    s.directPage = true ↔ s.emu8 = true ∧ s.d.toNat % 256 = 0 := by
  rw [State.directPage, Bool.and_eq_true, decide_eq_true_eq, setWidth8_eq_zero_iff]

/-- A direct operand or pointer stays in its page in EMU8 with `D[7:0] = 0`, and else in Bank 0 (R157). -/
theorem addr_directLoc (s : State) (d8 : Byte) (index k : Nat) :
    (s.directLoc d8 index).addr k = directAddr s d8 index k := by
  rw [State.directLoc, directAddr]
  simp only [directPage_iff]
  split
  · next hpage =>
    obtain ⟨-, hlow⟩ := hpage
    have hhigh : (s.d.extractLsb' 8 8).toNat = s.d.toNat / 256 := by
      rw [BitVec.extractLsb'_toNat, Nat.shiftRight_eq_div_pow]
      omega
    rw [addr_page, hhigh, BitVec.toNat_add, BitVec.toNat_ofNat]
    omega
  · rw [addr_bank0, BitVec.toNat_add, BitVec.toNat_add, BitVec.toNat_setWidth, BitVec.toNat_ofNat]
    omega

/-! ### Pointers -/

/-- A two-byte pointer is the little-endian number of its bytes (43_control_transfer.md R250). -/
theorem toNat_ptr16 (s : State) (l : Loc) : (s.ptr16 l).toNat = bytesAt s l.addr 2 := by
  rw [State.ptr16, toNat_append16]
  simp only [bytesAt, littleEndian]
  omega

/-- A three-byte pointer is the little-endian number of its bytes (R144). -/
theorem toNat_ptr24 (s : State) (l : Loc) : (s.ptr24 l).toNat = bytesAt s l.addr 3 := by
  rw [State.ptr24, toNat_append24, toNat_ptr16]
  simp only [bytesAt, littleEndian]
  omega

theorem toNat_ptr16_directLoc (s : State) (d8 : Byte) (index : Nat) :
    (s.ptr16 (s.directLoc d8 index)).toNat = bytesAt s (directAddr s d8 index) 2 := by
  rw [toNat_ptr16, funext (addr_directLoc s d8 index)]

theorem toNat_ptr24_directLocFlat (s : State) (d8 : Byte) :
    (s.ptr24 (s.directLocFlat d8)).toNat =
      bytesAt s (fun j => (s.d.toNat + d8.toNat + j) % 65536) 3 := by
  rw [toNat_ptr24, funext (addr_directLocFlat s d8)]

theorem toNat_ptr16_stackLoc (s : State) (d8 : Byte) :
    (s.ptr16 (s.stackLoc d8)).toNat =
      bytesAt s (fun j => (s.sp.toNat + d8.toNat + j) % 65536) 2 := by
  rw [toNat_ptr16, funext (addr_stackLoc s d8)]

/-- The case of `(d,x)` that R157 leaves open (93_implementation_defined.md U6). -/
theorem pointerAnomaly_iff (s : State) (d8 : Byte) :
    s.pointerAnomaly d8 = true ↔
      s.emu8 = true ∧ s.d.toNat % 256 ≠ 0 ∧ 255 < d8.toNat + s.x.toNat % 256 := by
  simp only [State.pointerAnomaly, Bool.and_eq_true, decide_eq_true_eq, ne_eq, setWidth8_eq_zero_iff,
    BitVec.toNat_setWidth, and_assoc]

/-- Outside the open case the pointer of `(d,x)` is the one at the indexed direct address (R142). -/
theorem toNat_pointerIndX {s : State} {d8 : Byte}
    (h : ¬ (s.emu8 = true ∧ s.d.toNat % 256 ≠ 0 ∧ 255 < d8.toNat + s.x.toNat % 256)) :
    (s.pointerIndX d8).toNat = bytesAt s (directAddr s d8 (indexOfX s)) 2 := by
  rw [← pointerAnomaly_iff] at h
  rw [State.pointerIndX, if_neg h, indexX_eq, toNat_ptr16_directLoc]

/-! ### The addressing modes -/

/-- Settles O12: each operand is a base in the linear space plus its index. -/
theorem absoluteOperandsLieInTheLinearSpace : Obligations.AbsoluteOperandsLieInTheLinearSpace := by
  intro s a al k
  simp only [State.locate, indexX_eq, indexY_eq]
  exact ⟨addr_dataLoc_zero s a k, addr_dataLoc s a _ k, addr_dataLoc s a _ k, addr_longLoc_zero al k,
    addr_longLoc al _ k⟩

/-- Settles O13: each operand is a direct location with its index. -/
theorem directOperandsStayInBankZeroOrTheirPage :
    Obligations.DirectOperandsStayInBankZeroOrTheirPage := by
  intro s d8 k
  simp only [State.locate, indexX_eq, indexY_eq]
  exact ⟨addr_directLoc s d8 0 k, addr_directLoc s d8 _ k, addr_directLoc s d8 _ k⟩

/-- The bytes of a `(d,x)` operand (R142), with the open case of R157 apart: there the pointer is the
model's free one (log 15). -/
theorem addr_locate_indX (s : State) (d8 : Byte) (k : Nat) :
    if s.emu8 = true ∧ s.d.toNat % 256 ≠ 0 ∧ 255 < d8.toNat + s.x.toNat % 256 then
      ∃ p : Word16, ∀ j,
        (s.locate (.indX d8)).addr j = (s.dbr.toNat * 65536 + p.toNat + j) % 2 ^ 24
    else
      (s.locate (.indX d8)).addr k =
        (s.dbr.toNat * 65536 + bytesAt s (directAddr s d8 (indexOfX s)) 2 + k) % 2 ^ 24 := by
  have hdata := addr_dataLoc_zero s (s.pointerIndX d8)
  split
  · exact ⟨s.pointerIndX d8, hdata⟩
  · next hclosed =>
    rw [← toNat_pointerIndX hclosed]
    exact hdata k

/-- Settles O14: each operand is that of the absolute or long mode at its pointer. -/
theorem directPointersGiveTheEffectiveAddress : Obligations.DirectPointersGiveTheEffectiveAddress := by
  intro s d8 k
  dsimp only
  refine ⟨?_, ?_, ?_, ?_, addr_locate_indX s d8 k⟩
  · rw [← toNat_ptr16_directLoc]
    exact addr_dataLoc_zero s _ k
  · rw [← toNat_ptr16_directLoc, ← indexY_eq]
    exact addr_dataLoc s _ _ k
  · rw [← toNat_ptr24_directLocFlat]
    exact addr_longLoc_zero _ k
  · rw [← toNat_ptr24_directLocFlat, ← indexY_eq]
    exact addr_longLoc _ _ k

/-- Settles O15: the operand and the pointer are at S plus the offset, in Bank 0. -/
theorem stackRelativeOperandsUseSixteenBitSums :
    Obligations.StackRelativeOperandsUseSixteenBitSums := by
  intro s d8 k
  refine ⟨addr_stackLoc s d8 k, ?_⟩
  rw [← toNat_ptr16_stackLoc, ← indexY_eq]
  exact addr_dataLoc s _ _ k

end Sys2Proof.Machine
end

section
/-! PROOFS. The cell of every instruction (spec 30_encoding.md R104), and the write of a register, of S and
of memory followed by the flags and the advance of PC (00_scope.md R6, R7), once for all the instructions
that end so. -/

namespace Sys2Proof.Machine

open Sys2Proof.Claims

/-- Every instruction stands in one of the cells of its mnemonic (R104). -/
theorem cell_mem_cellsOf (i : Instr) : cell i ∈ cellsOf i.mnemonic := by
  cases i <;> exact List.mem_of_elem_eq_true rfl

/-! ### N and Z -/

/-- `setNZ(v)` has the sign of `v` in N and its zero test in Z (R6). -/
theorem nzFrom_setNZ (s : State) {n : Nat} (v : BitVec n) : NZFrom (s.setNZ v) v := by
  simp [NZFrom, msb_eq_bit, beq_zero_eq]

theorem flagsKept_setNZ (s : State) {n : Nat} (v : BitVec n) : FlagsKept s (s.setNZ v) [.n, .z] := by
  intro f hf
  simp only [List.mem_cons, List.not_mem_nil, or_false, not_or] at hf
  obtain ⟨hn, hz⟩ := hf
  rw [flag_setNZ, if_neg hz, if_neg hn]

/-- The end of an instruction that has written a register of `s`, giving `u`: N and Z come from a value,
no other flag and no byte of memory changes, and PC moves on. -/
theorem setNZ_advance {s u t : State} {n len : Nat} {v : BitVec n} (hp : u.p = s.p)
    (hmem : u.mem = s.mem) (hpc : u.pc = s.pc) (ht : t = (u.setNZ v).advance len) :
    NZFrom t v ∧ FlagsKept s t [.n, .z] ∧ MemoryKept s t ∧ t.pc = s.pc + BitVec.ofNat 16 len := by
  subst ht
  refine ⟨nzFrom_setNZ u v, fun f hf => ?_, readByte_congr hmem, by rw [← hpc]; rfl⟩
  have hflag : u.flag f = s.flag f := by rw [State.flag, State.flag, hp]
  exact (flagsKept_setNZ u v f hf).trans hflag

/-! ### Registers -/

/-- A write of A, then N and Z from a value of any width, then the advance of PC: XBA takes N and Z from
8 bits of the 16 it writes (41_load_store_transfer.md R190). -/
theorem writeA_setNZ_advance {s t : State} {w : Width} {r : BitVec w.bits} {n len : Nat} {v : BitVec n}
    (ht : t = ((s.writeA w r).setNZ v).advance len) :
    t = { s with a := t.a, p := t.p, pc := t.pc } ∧ AccWritten s t w r ∧ NZFrom t v ∧
      FlagsKept s t [.n, .z] ∧ MemoryKept s t ∧ t.pc = s.pc + BitVec.ofNat 16 len := by
  refine ⟨?_, ?_, setNZ_advance (by simp) (by simp) (by simp) ht⟩ <;> subst ht
  · cases w <;> rfl
  · exact writeA_spec s w r

theorem putX_advance {s t : State} {w : Width} {v : BitVec w.bits} {len : Nat}
    (ht : t = (s.putX w v).advance len) :
    t = { s with x := t.x, p := t.p, pc := t.pc } ∧ IndexWritten t.x w v ∧ NZFrom t v ∧
      FlagsKept s t [.n, .z] ∧ MemoryKept s t ∧ t.pc = s.pc + BitVec.ofNat 16 len := by
  refine ⟨?_, ?_, setNZ_advance (by simp) (by simp) (by simp) ht⟩ <;> subst ht
  · cases w <;> rfl
  · exact writeX_spec s w v

theorem putY_advance {s t : State} {w : Width} {v : BitVec w.bits} {len : Nat}
    (ht : t = (s.putY w v).advance len) :
    t = { s with y := t.y, p := t.p, pc := t.pc } ∧ IndexWritten t.y w v ∧ NZFrom t v ∧
      FlagsKept s t [.n, .z] ∧ MemoryKept s t ∧ t.pc = s.pc + BitVec.ofNat 16 len := by
  refine ⟨?_, ?_, setNZ_advance (by simp) (by simp) (by simp) ht⟩ <;> subst ht
  · cases w <;> rfl
  · exact writeY_spec s w v

/-- S after a write, as a number: in EMU8 the low byte in page 1 (10_state.md R25). -/
theorem toNat_sp_writeS (s : State) (v : Nat) :
    (s.writeS (BitVec.ofNat 16 v)).sp.toNat =
      if s.emu8 = true then 0x100 + v % 256 else v % 65536 := by
  rw [State.writeS]
  split
  · rw [toNat_append16, BitVec.toNat_setWidth, BitVec.toNat_ofNat]
    change 256 + v % 65536 % 256 = _
    omega
  · exact BitVec.toNat_ofNat v 16

/-! ### Memory -/

/-- The bytes of a number up to a width are those of its low bits. -/
theorem holds_of_holds_ofNat {t : State} {addr : Nat → Nat} {w : Width} {v : Nat}
    (h : Holds t addr w.bytes (BitVec.ofNat w.bits v).toNat) : Holds t addr w.bytes v := by
  intro k hk
  rw [h k hk, BitVec.toNat_ofNat, Width.two_pow_bits]
  refine BitVec.eq_of_toNat_eq ?_
  obtain ⟨m, hm⟩ := Nat.exists_eq_add_of_lt hk
  rw [BitVec.toNat_ofNat, BitVec.toNat_ofNat, hm, Nat.add_assoc, Nat.pow_add,
    Nat.mod_mul_right_div_self, Nat.pow_succ, Nat.mul_comm, Nat.mod_mul_right_mod]

/-- A store puts the low bits of a number at the bytes of its operand, and changes nothing else but PC
(41_load_store_transfer.md R174 to R177). -/
theorem storeValue_ofNat (m : AddrMode) (w : Width) (v : Nat) (s : State) :
    ∃ t, storeValue m w (BitVec.ofNat w.bits v) s = .next t ∧
      t = { s with mem := t.mem, pc := t.pc } ∧ Holds t (s.locate m).addr w.bytes v ∧
      MemoryKeptOutside s t (s.locate m).addr w.bytes ∧
      t.pc = s.pc + BitVec.ofNat 16 (1 + m.size) := by
  refine ⟨_, rfl, ?_, ?_, ?_, ?_⟩
  · simp [State.advance]
  · exact holds_of_holds_ofNat (holds_writeWidth s _ w _)
  · exact memoryKeptOutside_writeWidth s _ w _
  · simp [State.advance]

end Sys2Proof.Machine
end

section
/-! PROOFS. Loads, stores and transfers (spec 41_load_store_transfer.md R171 to R190). -/

namespace Sys2Proof.Machine

open Sys2Proof.Claims

/-! ### Loads -/

/-- Settles O16: every form is the write of A at `mw` with N and Z, past the bytes of its source. -/
theorem ldaLoadsTheAccumulator : Obligations.LdaLoadsTheAccumulator := by
  intro i s hi
  obtain ⟨src, hsrc, hexec, hlen⟩ := exec_lda i hi
  simp only [PastInstr, hlen]
  exact ⟨hi ▸ cell_mem_cellsOf i, src, _, hsrc, hexec s, writeA_setNZ_advance rfl⟩

/-- Settles O17: every form is the write of its register at `xw` with N and Z. -/
theorem ldxAndLdyLoadTheIndexRegisters : Obligations.LdxAndLdyLoadTheIndexRegisters := by
  intro i s hi
  refine ⟨cell_mem_cellsOf i, ?_⟩
  obtain hx | hy := hi
  · obtain ⟨src, hsrc, hexec, hlen⟩ := exec_ldx i hx
    obtain ⟨hframe, hwritten, hrest⟩ := putX_advance (s := s) rfl
    simp only [PastInstr, hlen]
    exact ⟨src, _, hsrc, hexec s, fun _ => ⟨hframe, hwritten⟩, fun hy => by simp [hx] at hy, hrest⟩
  · obtain ⟨src, hsrc, hexec, hlen⟩ := exec_ldy i hy
    obtain ⟨hframe, hwritten, hrest⟩ := putY_advance (s := s) rfl
    simp only [PastInstr, hlen]
    exact ⟨src, _, hsrc, hexec s, fun hx => by simp [hy] at hx, fun _ => ⟨hframe, hwritten⟩, hrest⟩

/-! ### Stores -/

theorem storeA_eq (m : AddrMode) (s : State) :
    storeA m s = storeValue m s.mw (BitVec.ofNat _ s.a.toNat) s := by
  rw [BitVec.ofNat_toNat]
  rfl

theorem storeX_eq (m : AddrMode) (s : State) :
    storeX m s = storeValue m s.xw (BitVec.ofNat _ s.x.toNat) s := by
  rw [BitVec.ofNat_toNat]
  rfl

theorem storeY_eq (m : AddrMode) (s : State) :
    storeY m s = storeValue m s.xw (BitVec.ofNat _ s.y.toNat) s := by
  rw [BitVec.ofNat_toNat]
  rfl

/-- Settles O18: each of the four is one store of the low bits of a number at a width. -/
theorem storesWriteTheirOperandAlone : Obligations.StoresWriteTheirOperandAlone := by
  intro i s n v h
  have hstore : ∃ m w, i.operand = .addr m ∧ n = w.bytes ∧
      exec i s = storeValue m w (BitVec.ofNat w.bits v) s ∧
      ∀ ws : Widths, i.length ws = 1 + m.size := by
    obtain ⟨hi, rfl, rfl⟩ | ⟨hi, rfl, rfl⟩ | ⟨hi, rfl, rfl⟩ | ⟨hi, rfl, rfl⟩ := h
    · obtain ⟨m, hm, hexec, hlen⟩ := exec_sta i hi
      exact ⟨m, s.mw, hm, rfl, (hexec s).trans (storeA_eq m s), hlen⟩
    · obtain ⟨m, hm, hexec, hlen⟩ := exec_stx i hi
      exact ⟨m, s.xw, hm, rfl, (hexec s).trans (storeX_eq m s), hlen⟩
    · obtain ⟨m, hm, hexec, hlen⟩ := exec_sty i hi
      exact ⟨m, s.xw, hm, rfl, (hexec s).trans (storeY_eq m s), hlen⟩
    · obtain ⟨m, hm, hexec, hlen⟩ := exec_stz i hi
      exact ⟨m, s.mw, hm, rfl, hexec s, hlen⟩
  obtain ⟨m, w, hm, rfl, hexec, hlen⟩ := hstore
  obtain ⟨t, ht, hspec⟩ := storeValue_ofNat m w v s
  simp only [PastInstr, hlen]
  exact ⟨cell_mem_cellsOf i, m, t, hm, hexec.trans ht, hspec⟩

/-! ### Transfers -/

/-- Settles O19: each transfer is the write of X or of Y at `xw` with the low bits of its source. -/
theorem transfersToTheIndexRegisters : Obligations.TransfersToTheIndexRegisters := by
  intro i s v h
  refine ⟨cell_mem_cellsOf i, ?_⟩
  have hwrite :
      exec i s = .next ((s.putX s.xw (BitVec.ofNat _ v)).advance 1) ∧ ¬ (i = .tay ∨ i = .txy) ∨
      exec i s = .next ((s.putY s.xw (BitVec.ofNat _ v)).advance 1) ∧
        ¬ (i = .tax ∨ i = .tyx ∨ i = .tsx) := by
    obtain ⟨rfl, rfl⟩ | ⟨rfl, rfl⟩ | ⟨rfl, rfl⟩ | ⟨rfl, rfl⟩ | ⟨rfl, rfl⟩ := h <;>
      rw [BitVec.ofNat_toNat]
    case inl | inr.inl | inr.inr.inl => exact .inl ⟨rfl, by decide⟩
    case inr.inr.inr.inl | inr.inr.inr.inr => exact .inr ⟨rfl, by decide⟩
  obtain ⟨hexec, hi⟩ | ⟨hexec, hi⟩ := hwrite
  · obtain ⟨hframe, hwritten, hrest⟩ := putX_advance (s := s) rfl
    exact ⟨_, hexec, fun _ => ⟨hframe, hwritten⟩, fun h => absurd h hi, hrest⟩
  · obtain ⟨hframe, hwritten, hrest⟩ := putY_advance (s := s) rfl
    exact ⟨_, hexec, fun h => absurd h hi, fun _ => ⟨hframe, hwritten⟩, hrest⟩

/-- The two low bytes of A exchanged, as one number (R190). -/
theorem byteOf_append_swap (a : Word32) :
    (byteOf a 0 ++ byteOf a 1 : Word16) =
      BitVec.ofNat 16 (a.toNat % 256 * 256 + a.toNat / 256 % 256) := by
  refine BitVec.eq_of_toNat_eq ?_
  simp only [byteOf, toNat_append16, BitVec.extractLsb'_toNat, BitVec.toNat_ofNat,
    Nat.shiftRight_eq_div_pow, Nat.reduceMul, Nat.reducePow]
  omega

/-- The new low byte of XBA is the old `A[15:8]` (R190). -/
theorem byteOf_one_eq (a : Word32) :
    byteOf a 1 = BitVec.ofNat 8 (a.toNat % 256 * 256 + a.toNat / 256 % 256) := by
  refine BitVec.eq_of_toNat_eq ?_
  simp only [byteOf, BitVec.extractLsb'_toNat, BitVec.toNat_ofNat, Nat.shiftRight_eq_div_pow]
  omega

/-- Settles O20: each transfer is the write of A at its width, with N and Z from the value written or,
for XBA, from its low byte. -/
theorem transfersToTheAccumulator : Obligations.TransfersToTheAccumulator := by
  intro i s w v h
  refine ⟨cell_mem_cellsOf i, ?_⟩
  have hwrite :
      exec i s = .next ((s.putA w (BitVec.ofNat _ v)).advance 1) ∧ i ≠ .xba ∨
      exec i s = .next (((s.writeA w (BitVec.ofNat _ v)).setNZ (BitVec.ofNat 8 v)).advance 1) ∧
        i = .xba := by
    obtain ⟨rfl, rfl, rfl⟩ | ⟨rfl, rfl, rfl⟩ | ⟨rfl, rfl, rfl⟩ | ⟨rfl, rfl, rfl⟩ |
      ⟨rfl, rfl, rfl⟩ := h
    case inr.inr.inr.inr =>
      rw [← byteOf_append_swap, ← byteOf_one_eq]
      exact .inr ⟨rfl, rfl⟩
    all_goals
      rw [BitVec.ofNat_toNat]
      exact .inl ⟨rfl, by decide⟩
  obtain ⟨hexec, hi⟩ | ⟨hexec, hi⟩ := hwrite
  · obtain ⟨hframe, hwritten, hnz, hrest⟩ := writeA_setNZ_advance (s := s) rfl
    exact ⟨_, hexec, hframe, hwritten, fun _ => hnz, fun h => absurd h hi, hrest⟩
  · obtain ⟨hframe, hwritten, hnz, hrest⟩ := writeA_setNZ_advance (s := s) rfl
    exact ⟨_, hexec, hframe, hwritten, fun h => absurd hi h, fun _ => hnz, hrest⟩

/-- Settles O21: TXS and TCS are one write of S with the low 16 bits of their source; TCD is the write of
D with N and Z from it. -/
theorem transfersToTheStackPointerAndDirectRegister :
    Obligations.TransfersToTheStackPointerAndDirectRegister := by
  intro i s
  refine ⟨fun v h => ⟨cell_mem_cellsOf i, ?_⟩, ?_⟩
  · have hwrite : exec i s = .next ((s.writeS (BitVec.ofNat 16 v)).advance 1) := by
      obtain ⟨rfl, rfl⟩ | ⟨rfl, rfl⟩ := h <;> rw [BitVec.ofNat_toNat] <;> rfl
    exact ⟨_, hwrite, rfl, fun _ => rfl, toNat_sp_writeS s v⟩
  · rintro rfl
    obtain ⟨hnz, hflags, hmem, -⟩ := setNZ_advance (s := s)
      (u := { s with d := s.a.setWidth 16 }) (v := s.a.setWidth 16) (len := 1) rfl rfl rfl rfl
    exact ⟨cell_mem_cellsOf .tcd, _, rfl, rfl, hmem, BitVec.toNat_setWidth 16 s.a, hnz, hflags⟩

end Sys2Proof.Machine
end

section
/-! PROOFS. How the arithmetic and logic instructions end (spec 42_arith_logic.md R210 to R232): a write of
A, of a target or of nothing, then the flags from an operation's result, then the advance of PC. -/

namespace Sys2Proof.Machine

open Sys2Proof.Claims

theorem toNat_readA (s : State) (w : Width) : (s.readA w).toNat = s.a.toNat % 2 ^ w.bits :=
  toNat_targetValue_acc s w

/-! ### The end of ADC and SBC -/

/-- `s` has become `t` by an add or subtract that gave `r`: A and the four flags are those of `r`, PC has
moved on by `len`, and the rest is as before (R211). -/
structure AluWritten (s t : State) (w : Width) (r : AluResult w.bits) (len : Nat) : Prop where
  frame : t = { s with a := t.a, p := t.p, pc := t.pc }
  acc : AccWritten s t w r.value
  flag_n : t.flag .n = r.n
  flag_v : t.flag .v = r.v
  flag_z : t.flag .z = r.z
  flag_c : t.flag .c = r.c
  flagsKept : FlagsKept s t [.n, .v, .z, .c]
  memoryKept : MemoryKept s t
  pc : t.pc = s.pc + BitVec.ofNat 16 len

theorem flagsKept_setNVZC (s : State) {n : Nat} (r : AluResult n) :
    FlagsKept s (s.setNVZC r) [.n, .v, .z, .c] := by
  intro f hf
  simp only [List.mem_cons, List.not_mem_nil, or_false, not_or] at hf
  obtain ⟨hn, hv, hz, hc⟩ := hf
  rw [flag_setNVZC, if_neg hc, if_neg hz, if_neg hv, if_neg hn]

theorem aluWritten_setNVZC_advance (s : State) (w : Width) (r : AluResult w.bits) (len : Nat) :
    AluWritten s (((s.writeA w r.value).setNVZC r).advance len) w r len where
  frame := by
    rw [writeA_eq]
    rfl
  acc := by simpa [AccWritten] using writeA_spec s w r.value
  flag_n := by simp
  flag_v := by simp
  flag_z := by simp
  flag_c := by simp
  flagsKept f hf := by simpa using flagsKept_setNVZC (s.writeA w r.value) r f hf
  memoryKept a := by simp
  pc := by simp [State.advance]

/-- N and Z are those of the result where the operation takes them from it (R211, R212, R213). -/
theorem AluWritten.nzFrom {s t : State} {w : Width} {r : AluResult w.bits} {len : Nat}
    (h : AluWritten s t w r len) (hn : r.n = r.value.msb) (hz : r.z = (r.value == 0#w.bits)) :
    NZFrom t r.value :=
  ⟨by rw [h.flag_n, hn, msb_eq_bit], by rw [h.flag_z, hz, beq_zero_eq]⟩

/-- What ADC does in every form, in binary and in decimal mode (R211, R212). -/
theorem exec_adc_aluWritten {i : Instr} (hi : i.mnemonic = .adc) (s : State) :
    ∃ src t, sourceOf i.operand = some src ∧ exec i s = .next t ∧
      AluWritten s t s.mw
        (adc s.draw (s.flag .d) (s.readA s.mw) (s.sourceValue src s.mw) (s.flag .c))
        (i.length s.widths) := by
  obtain ⟨src, hsrc, hexec, hlen⟩ := exec_adc i hi
  rw [hlen]
  exact ⟨src, _, hsrc, hexec s, aluWritten_setNVZC_advance ..⟩

/-- What SBC does in every form, in binary and in decimal mode (R213, R212). -/
theorem exec_sbc_aluWritten {i : Instr} (hi : i.mnemonic = .sbc) (s : State) :
    ∃ src t, sourceOf i.operand = some src ∧ exec i s = .next t ∧
      AluWritten s t s.mw
        (sbc s.draw (s.flag .d) (s.readA s.mw) (s.sourceValue src s.mw) (s.flag .c))
        (i.length s.widths) := by
  obtain ⟨src, hsrc, hexec, hlen⟩ := exec_sbc i hi
  rw [hlen]
  exact ⟨src, _, hsrc, hexec s, aluWritten_setNVZC_advance ..⟩

/-! ### The end of the compares -/

theorem flagsKept_setCompare (s : State) {n : Nat} (a m : BitVec n) :
    FlagsKept s (s.setCompare a m) [.n, .z, .c] := by
  intro f hf
  simp only [List.mem_cons, List.not_mem_nil, or_false, not_or] at hf
  obtain ⟨hn, hz, hc⟩ := hf
  rw [flag_setCompare, if_neg hc, if_neg hz, if_neg hn]

/-- A compare of a register's value against a source writes N, Z, C and PC alone (R214). -/
theorem compareWith_spec (src : Source) (w : Width) (a : BitVec w.bits) (s : State) :
    ∃ t, compareWith src w a s = .next t ∧ t = { s with p := t.p, pc := t.pc } ∧
      NZFrom t (a - s.sourceValue src w) ∧
      t.flag .c = decide ((s.sourceValue src w).toNat ≤ a.toNat) ∧
      FlagsKept s t [.n, .z, .c] ∧ MemoryKept s t ∧
      t.pc = s.pc + BitVec.ofNat 16 (1 + src.size w) := by
  refine ⟨_, rfl, rfl, ?_, ?_, ?_, fun a => ?_, rfl⟩
  · simp [NZFrom, msb_eq_bit, beq_zero_eq]
  · simp
  · exact flagsKept_setCompare s a _
  · simp

/-! ### The end of a read-modify-write -/

/-- A write of a target followed by writes of P and PC alone (R148, R210). -/
theorem targetWritten_of_eq {s t : State} {u : Target} {w : Width} {v : BitVec w.bits}
    (ht : t = { s.writeTarget u w v with p := t.p, pc := t.pc }) : TargetWritten s t w v u := by
  rw [ht]
  cases u with
  | acc =>
    refine ⟨?_, writeA_spec s w v, fun a => ?_⟩
    · cases w <;> rfl
    · exact readByte_writeA s w v a
  | mem m =>
    refine ⟨?_, holds_writeWidth s _ w v, memoryKeptOutside_writeWidth s _ w v⟩
    simp [State.writeTarget]

/-- INC and DEC: N and Z come from the value written (R221, R222). -/
theorem writeTarget_setNZ_advance {s t : State} {u : Target} {w : Width} {v : BitVec w.bits} {len : Nat}
    (ht : t = ((s.writeTarget u w v).setNZ v).advance len) :
    TargetWritten s t w v u ∧ NZFrom t v ∧ FlagsKept s t [.n, .z] ∧
      t.pc = s.pc + BitVec.ofNat 16 len := by
  subst ht
  refine ⟨targetWritten_of_eq rfl, nzFrom_setNZ _ v, fun f hf => ?_, by simp [State.advance]⟩
  simpa using flagsKept_setNZ (s.writeTarget u w v) v f hf

/-- The shifts: N and Z come from the value written, and C is the bit shifted out (R227 to R230). -/
theorem shiftWriteBack_spec (s : State) (u : Target) (w : Width) (r : ShiftResult w.bits) :
    TargetWritten s (shiftWriteBack u w r s) w r.value u ∧
      NZFrom (shiftWriteBack u w r s) r.value ∧ (shiftWriteBack u w r s).flag .c = r.carry ∧
      FlagsKept s (shiftWriteBack u w r s) [.n, .z, .c] ∧
      (shiftWriteBack u w r s).pc = s.pc + BitVec.ofNat 16 (1 + u.size) := by
  refine ⟨targetWritten_of_eq rfl, ?_, ?_, fun f hf => ?_, ?_⟩
  · simp [NZFrom, shiftWriteBack, msb_eq_bit, beq_zero_eq]
  · simp [shiftWriteBack]
  · simp only [List.mem_cons, List.not_mem_nil, or_false, not_or] at hf
    obtain ⟨hn, hz, hc⟩ := hf
    simp [shiftWriteBack, hn, hz, hc]
  · simp [shiftWriteBack, State.advance]

/-! ### The zero test of BIT, TSB and TRB -/

/-- One flag after `P.Z <- ((a AND m) == 0)` (R220, R231, R232). -/
theorem flag_setBitZ (s : State) {n : Nat} (a m : BitVec n) (f : Flag) :
    (s.setBitZ a m).flag f = if f = .z then decide ((a &&& m).toNat = 0) else s.flag f := by
  rw [State.setBitZ, flag_setFlag, beq_zero_eq]

/-- TSB and TRB: the operand is written back and Z is the zero test of `a AND m` (R231, R232). -/
theorem writeTarget_setBitZ_advance {s t : State} {u : Target} {w : Width} {v a m : BitVec w.bits}
    {len : Nat} (ht : t = ((s.writeTarget u w v).setBitZ a m).advance len) :
    TargetWritten s t w v u ∧ t.flag .z = decide ((a &&& m).toNat = 0) ∧ FlagsKept s t [.z] ∧
      t.pc = s.pc + BitVec.ofNat 16 len := by
  subst ht
  refine ⟨targetWritten_of_eq rfl, ?_, fun f hf => ?_, by simp [State.advance]⟩
  · simp [flag_setBitZ]
  · have hz : f ≠ .z := by simpa using hf
    simp [flag_setBitZ, hz]

/-- BIT on memory (R220). -/
theorem bitMemory_spec (mode : AddrMode) (s : State) :
    ∃ t, bitMemory mode s = .next t ∧ t = { s with p := t.p, pc := t.pc } ∧
      t.flag .z = decide ((s.readA s.mw &&& s.sourceValue (.mem mode) s.mw).toNat = 0) ∧
      t.flag .n = (s.sourceValue (.mem mode) s.mw).getLsbD (s.mw.bits - 1) ∧
      t.flag .v = (s.sourceValue (.mem mode) s.mw).getLsbD (s.mw.bits - 2) ∧
      FlagsKept s t [.z, .n, .v] ∧ MemoryKept s t ∧
      t.pc = s.pc + BitVec.ofNat 16 (1 + mode.size) := by
  refine ⟨_, rfl, rfl, ?_, ?_, ?_, fun f hf => ?_, fun a => ?_, rfl⟩
  · simp [flag_setBitZ]
  · simp
  · simp
  · simp only [List.mem_cons, List.not_mem_nil, or_false, not_or] at hf
    obtain ⟨hz, hn, hv⟩ := hf
    simp [flag_setBitZ, hz, hn, hv]
  · simp

/-- BIT immediate writes Z and PC alone (R220). -/
theorem bitImmediate_spec (v : Word32) (s : State) :
    ∃ t, bitImmediate v s = .next t ∧ t = { s with p := t.p, pc := t.pc } ∧
      t.flag .z = decide ((s.readA s.mw &&& s.sourceValue (.imm v) s.mw).toNat = 0) ∧
      FlagsKept s t [.z] ∧ MemoryKept s t ∧
      t.pc = s.pc + BitVec.ofNat 16 (1 + Source.size s.mw (.imm v)) := by
  refine ⟨_, rfl, rfl, ?_, fun f hf => ?_, fun a => ?_, rfl⟩
  · simp [flag_setBitZ]
  · have hz : f ≠ .z := by simpa using hf
    simp [flag_setBitZ, hz]
  · simp

end Sys2Proof.Machine
end

section
/-! PROOFS. The numbers behind the operations (spec 42_arith_logic.md R211 to R232): differences modulo a
width, C and V of an add and a subtract, and the bits of a shifted value. -/

namespace Sys2Proof.Machine

open Sys2Proof.Claims

/-! ### Differences -/

/-- A difference modulo `2^n` is that of the numbers with a multiple of `2^n` lent to it. -/
theorem ofNat_add_two_pow_sub {n k x y : Nat} (hn : n ≤ k) (hy : y ≤ x + 2 ^ k) :
    BitVec.ofNat n (x + 2 ^ k - y) = BitVec.ofNat n x - BitVec.ofNat n y := by
  have hlent : BitVec.ofNat n (2 ^ k) = 0#n := by
    refine BitVec.eq_of_toNat_eq ?_
    rw [BitVec.toNat_ofNat, BitVec.toNat_ofNat, Nat.zero_mod]
    exact Nat.mod_eq_zero_of_dvd (Nat.pow_dvd_pow 2 hn)
  have hsum : BitVec.ofNat n (x + 2 ^ k - y) + BitVec.ofNat n y = BitVec.ofNat n x := by
    rw [← BitVec.ofNat_add, Nat.sub_add_cancel hy, BitVec.ofNat_add, hlent, BitVec.add_zero]
  rw [← hsum, BitVec.add_sub_cancel]

theorem width_bits_le (w : Width) : w.bits ≤ 32 := by cases w <;> decide

/-! ### ADC and SBC in binary mode -/

/-- V of ADC in the bits of the operands and of the exact sum (R211). -/
theorem addBinary_v {n : Nat} (hn : 0 < n) (a m : BitVec n) (c : Bool) :
    (addBinary a m c).v = (a.toNat.testBit (n - 1) == m.toNat.testBit (n - 1) &&
      (a.toNat + m.toNat + c.toNat).testBit (n - 1) != a.toNat.testBit (n - 1)) := by
  have hlast : n - 1 < n := by omega
  simp only [addBinary, msb_eq_bit, BitVec.getLsbD_ofNat, hlast, decide_true, Bool.true_and]
  rfl

/-- The sum with the complement, by which SBC subtracts, is the difference and `2^n` more (R213). -/
theorem subBinary_sum {n : Nat} (a m : BitVec n) (c : Bool) :
    ((a.toNat + (2 ^ n - 1 - m.toNat) + c.toNat : Nat) : Int) =
      (a.toNat : Int) - m.toNat - (1 - c.toNat) + (2 ^ n : Nat) := by
  have hm := m.isLt
  omega

theorem subBinary_value {n : Nat} (a m : BitVec n) (c : Bool) :
    (subBinary a m c).value = BitVec.ofInt n ((a.toNat : Int) - m.toNat - (1 - c.toNat)) := by
  refine BitVec.eq_of_toInt_eq ?_
  rw [BitVec.toInt_ofInt, ← Int.add_bmod_right, ← subBinary_sum]
  exact BitVec.toInt_ofNat ..

/-- C of SBC says that no borrow occurs (R213). -/
theorem subBinary_c {n : Nat} (a m : BitVec n) (c : Bool) :
    (subBinary a m c).c = decide (0 ≤ (a.toNat : Int) - m.toNat - (1 - c.toNat)) := by
  have hsum := subBinary_sum a m c
  refine decide_eq_decide.2 ?_
  omega

theorem subBinary_v {n : Nat} (a m : BitVec n) (c : Bool) :
    (subBinary a m c).v = (a.getLsbD (n - 1) != m.getLsbD (n - 1) &&
      (subBinary a m c).value.getLsbD (n - 1) != a.getLsbD (n - 1)) := by
  simp only [← msb_eq_bit]
  rfl

/-! ### Shifts -/

/-- Bit `b` of a value of `n` bits shifted or rotated by one bit, with C coming in (R227 to R230). -/
def shiftedBit {n : Nat} (k : Mnemonic) (c : Bool) (v : BitVec n) (b : Nat) : Bool :=
  if k = .asl then (decide (0 < b) && v.getLsbD (b - 1))
  else if k = .lsr then v.getLsbD (b + 1)
  else if k = .rol then (if b = 0 then c else v.getLsbD (b - 1))
  else (if b = n - 1 then c else v.getLsbD (b + 1))

/-- ASL (R227). -/
theorem getLsbD_shiftLeft {n b : Nat} (hb : b < n) (c : Bool) (v : BitVec n) :
    (shiftLeft v).value.getLsbD b = shiftedBit .asl c v b := by
  have hbit := Nat.testBit_mul_two_pow v.toNat b 1
  rw [Nat.pow_one] at hbit
  simp only [shiftLeft, BitVec.getLsbD_ofNat, hb, decide_true, Bool.true_and, hbit]
  rfl

/-- LSR (R228). -/
theorem getLsbD_shiftRight {n b : Nat} (hb : b < n) (c : Bool) (v : BitVec n) :
    (shiftRight v).value.getLsbD b = shiftedBit .lsr c v b := by
  simp only [shiftRight, BitVec.getLsbD_ofNat, hb, decide_true, Bool.true_and, Nat.testBit_div_two]
  rfl

/-- ROL: C is below the bits of `v` that stay (R229). -/
theorem getLsbD_rotateLeft {n b : Nat} (hb : b < n) (c : Bool) (v : BitVec n) :
    (rotateLeft c v).value.getLsbD b = shiftedBit .rol c v b := by
  obtain ⟨k, rfl⟩ : ∃ k, n = k + 1 := ⟨n - 1, by omega⟩
  have hc := c.toNat_lt
  have hsplit : v.toNat * 2 % 2 ^ (k + 1) + c.toNat = 2 ^ 1 * (v.toNat % 2 ^ k) + c.toNat := by
    rw [Nat.pow_succ, Nat.mul_mod_mul_right]
    omega
  simp only [rotateLeft, BitVec.getLsbD_ofNat, hb, decide_true, Bool.true_and, hsplit,
    Nat.testBit_two_pow_mul_add _ (show c.toNat < 2 ^ 1 from hc), Nat.testBit_mod_two_pow]
  change _ = if b = 0 then c else v.toNat.testBit (b - 1)
  by_cases h0 : b = 0
  · subst h0
    cases c <;> rfl
  · rw [if_neg (by omega), if_neg h0, decide_eq_true (by omega : b - 1 < k), Bool.true_and]

/-- ROR: C is above the bits of `v` that stay (R230). -/
theorem getLsbD_rotateRight {n b : Nat} (hb : b < n) (c : Bool) (v : BitVec n) :
    (rotateRight c v).value.getLsbD b = shiftedBit .ror c v b := by
  have hv : v.toNat / 2 < 2 ^ (n - 1) := by
    have hlt := v.isLt
    have hpow := Nat.two_pow_pred_mul_two (Nat.zero_lt_of_lt hb)
    omega
  have hsplit : v.toNat / 2 + c.toNat * 2 ^ (n - 1) = 2 ^ (n - 1) * c.toNat + v.toNat / 2 := by
    rw [Nat.add_comm, Nat.mul_comm]
  simp only [rotateRight, BitVec.getLsbD_ofNat, hb, decide_true, Bool.true_and, hsplit,
    Nat.testBit_two_pow_mul_add _ hv, Nat.testBit_div_two]
  change _ = if b = n - 1 then c else v.toNat.testBit (b + 1)
  by_cases hlast : b = n - 1
  · subst hlast
    rw [if_neg (lt_irrefl _), if_pos rfl, Nat.sub_self]
    cases c <;> rfl
  · rw [if_pos (by omega), if_neg hlast]

end Sys2Proof.Machine
end

section
/-! PROOFS. The arithmetic and logic instructions other than ADC and SBC (spec 42_arith_logic.md R214 to
R232). -/

namespace Sys2Proof.Machine

open Sys2Proof.Claims

/-! ### Compares -/

/-- What CMP, CPX and CPY do in every form (R214, R215, R216). -/
theorem exec_compare {i : Instr} {s : State} {w : Width} {reg : Word32}
    (h : i.mnemonic = .cmp ∧ w = s.mw ∧ reg = s.a ∨ i.mnemonic = .cpx ∧ w = s.xw ∧ reg = s.x ∨
      i.mnemonic = .cpy ∧ w = s.xw ∧ reg = s.y) :
    ∃ src, sourceOf i.operand = some src ∧ exec i s = compareWith src w (reg.setWidth w.bits) s ∧
      i.length s.widths = 1 + src.size w := by
  obtain ⟨hi, rfl, rfl⟩ | ⟨hi, rfl, rfl⟩ | ⟨hi, rfl, rfl⟩ := h
  · obtain ⟨src, hsrc, hexec, hlen⟩ := exec_cmp i hi
    exact ⟨src, hsrc, hexec s, hlen _⟩
  · obtain ⟨src, hsrc, hexec, hlen⟩ := exec_cpx i hi
    exact ⟨src, hsrc, hexec s, hlen _⟩
  · obtain ⟨src, hsrc, hexec, hlen⟩ := exec_cpy i hi
    exact ⟨src, hsrc, hexec s, hlen _⟩

/-- Settles O26: each of the three is one binary compare of its register at its width. -/
theorem comparesSetNZCAlone : Obligations.ComparesSetNZCAlone := by
  intro i s w reg h
  obtain ⟨src, hsrc, hexec, hlen⟩ := exec_compare h
  obtain ⟨t, ht, hframe, hnz, hc, hrest⟩ := compareWith_spec src w (reg.setWidth w.bits) s
  rw [BitVec.toNat_setWidth] at hc
  have hdiff : BitVec.ofNat w.bits (reg.toNat % 2 ^ w.bits + 2 ^ w.bits - (s.sourceValue src w).toNat) =
      reg.setWidth w.bits - s.sourceValue src w := by
    have hm := (s.sourceValue src w).isLt
    rw [ofNat_add_two_pow_sub le_rfl (by omega), ← BitVec.toNat_setWidth, BitVec.ofNat_toNat,
      BitVec.ofNat_toNat, BitVec.setWidth_eq, BitVec.setWidth_eq]
  rw [← hdiff] at hnz
  simp only [PastInstr, hlen]
  exact ⟨cell_mem_cellsOf i, src, t, hsrc, hexec.trans ht, hframe, hnz, hc, hrest⟩

/-! ### AND, ORA, EOR and BIT -/

/-- Settles O27: each of the three is the write of A at `mw` with N and Z. -/
theorem logicOperationsWriteTheAccumulator : Obligations.LogicOperationsWriteTheAccumulator := by
  intro i s h
  refine ⟨cell_mem_cellsOf i, ?_⟩
  obtain hi | hi | hi := h
  · obtain ⟨src, hsrc, hexec, hlen⟩ := exec_and i hi
    simp only [PastInstr, hlen, hi]
    exact ⟨src, _, hsrc, hexec s, writeA_setNZ_advance rfl⟩
  · obtain ⟨src, hsrc, hexec, hlen⟩ := exec_ora i hi
    simp only [PastInstr, hlen, hi]
    exact ⟨src, _, hsrc, hexec s, writeA_setNZ_advance rfl⟩
  · obtain ⟨src, hsrc, hexec, hlen⟩ := exec_eor i hi
    simp only [PastInstr, hlen, hi]
    exact ⟨src, _, hsrc, hexec s, writeA_setNZ_advance rfl⟩

/-- A memory operand is not the immediate form (R220). -/
theorem format_ne_imm_of_addr {i : Instr} {mode : AddrMode} (hmode : i.operand = .addr mode) :
    i.format ≠ .imm := by
  rw [Instr.format, hmode]
  cases mode <;> exact nofun

/-- Settles O28: the immediate form and the memory forms are two meanings. -/
theorem bitTestsWithoutWriting : Obligations.BitTestsWithoutWriting := by
  intro i s hi
  refine ⟨hi ▸ cell_mem_cellsOf i, ?_⟩
  obtain ⟨v, rfl⟩ | ⟨mode, hmode, hexec, hlen⟩ := exec_bit i hi
  · obtain ⟨t, ht, hframe, hz, hkept, hmem, hpc⟩ := bitImmediate_spec v s
    exact ⟨.imm v, t, rfl, ht, hframe, hz, fun _ => hkept, fun h => absurd rfl h, hmem, hpc⟩
  · obtain ⟨t, ht, hframe, hz, hn, hv, hkept, hmem, hpc⟩ := bitMemory_spec mode s
    simp only [PastInstr, hlen]
    exact ⟨.mem mode, t, by rw [hmode]; rfl, (hexec s).trans ht, hframe, hz,
      fun h => absurd h (format_ne_imm_of_addr hmode), fun _ => ⟨hn, hv, hkept⟩, hmem, hpc⟩

/-! ### Read-modify-write -/

/-- Settles O29: INC and DEC are the write of their target with N and Z, and DEC adds `2^w - 1`. -/
theorem incAndDecWrapAtTheirWidth : Obligations.IncAndDecWrapAtTheirWidth := by
  intro i s h
  refine ⟨cell_mem_cellsOf i, ?_⟩
  obtain hi | hi := h
  · obtain ⟨tgt, htgt, hexec, hlen⟩ := exec_inc i hi
    simp only [PastInstr, hlen, hi, if_true]
    refine ⟨tgt, _, htgt, hexec s, ?_⟩
    rw [BitVec.ofNat_add (s.targetValue tgt s.mw).toNat, BitVec.ofNat_toNat, BitVec.setWidth_eq]
    exact writeTarget_setNZ_advance rfl
  · obtain ⟨tgt, htgt, hexec, hlen⟩ := exec_dec i hi
    have hone : 1 ≤ (s.targetValue tgt s.mw).toNat + 2 ^ s.mw.bits :=
      Nat.one_le_two_pow.trans (Nat.le_add_left _ _)
    simp only [PastInstr, hlen, hi, reduceCtorEq, if_false]
    refine ⟨tgt, _, htgt, hexec s, ?_⟩
    rw [ofNat_add_two_pow_sub le_rfl hone, BitVec.ofNat_toNat, BitVec.setWidth_eq]
    exact writeTarget_setNZ_advance rfl

/-- What ASL, LSR, ROL and ROR do in every form (R227 to R230). -/
theorem exec_shift {i : Instr} (s : State)
    (hi : i.mnemonic = .asl ∨ i.mnemonic = .lsr ∨ i.mnemonic = .rol ∨ i.mnemonic = .ror) :
    ∃ tgt, ∃ r : ShiftResult s.mw.bits, targetOf i.operand = some tgt ∧
      exec i s = .next (shiftWriteBack tgt s.mw r s) ∧ i.length s.widths = 1 + tgt.size ∧
      (∀ b, b < s.mw.bits →
        r.value.getLsbD b = shiftedBit i.mnemonic (s.flag .c) (s.targetValue tgt s.mw) b) ∧
      r.carry = (s.targetValue tgt s.mw).getLsbD
        (if i.mnemonic = .asl ∨ i.mnemonic = .rol then s.mw.bits - 1 else 0) := by
  obtain hi | hi | hi | hi := hi
  · obtain ⟨tgt, htgt, hexec, hlen⟩ := exec_asl i hi
    exact ⟨tgt, _, htgt, hexec s, hlen _, hi ▸ fun b hb => getLsbD_shiftLeft hb _ _,
      by rw [hi]; exact msb_eq_bit _⟩
  · obtain ⟨tgt, htgt, hexec, hlen⟩ := exec_lsr i hi
    exact ⟨tgt, _, htgt, hexec s, hlen _, hi ▸ fun b hb => getLsbD_shiftRight hb _ _,
      by rw [hi]; rfl⟩
  · obtain ⟨tgt, htgt, hexec, hlen⟩ := exec_rol i hi
    exact ⟨tgt, _, htgt, hexec s, hlen _, hi ▸ fun b hb => getLsbD_rotateLeft hb _ _,
      by rw [hi]; exact msb_eq_bit _⟩
  · obtain ⟨tgt, htgt, hexec, hlen⟩ := exec_ror i hi
    exact ⟨tgt, _, htgt, hexec s, hlen _, hi ▸ fun b hb => getLsbD_rotateRight hb _ _,
      by rw [hi]; rfl⟩

/-- Settles O31: exactly one value has the bits the rule asks for, and it is the one written back. -/
theorem shiftsMoveOneBitThroughCarry : Obligations.ShiftsMoveOneBitThroughCarry := by
  intro i s h
  obtain ⟨tgt, result, htgt, hexec, hlen, hbits, hcarry⟩ := exec_shift s h
  obtain ⟨hwritten, hnz, hc, hkept, hpc⟩ := shiftWriteBack_spec s tgt s.mw result
  refine ⟨cell_mem_cellsOf i, tgt, _, htgt, hexec, fun r hr => ?_⟩
  obtain rfl : r = result.value :=
    BitVec.eq_of_getLsbD_eq fun b hb => (hr b hb).trans (hbits b hb).symm
  rw [PastInstr, hlen]
  exact ⟨hwritten, hnz, hc.trans hcarry, hkept, hpc⟩

/-- Settles O32: both are the write of their operand with Z from `a AND m`. -/
theorem tsbAndTrbWriteTheOperandBack : Obligations.TsbAndTrbWriteTheOperandBack := by
  intro i s h
  refine ⟨cell_mem_cellsOf i, ?_⟩
  obtain hi | hi := h
  · obtain ⟨mode, hmode, hexec, hlen⟩ := exec_tsb i hi
    simp only [PastInstr, hlen, hi]
    exact ⟨mode, _, hmode, hexec s, writeTarget_setBitZ_advance (u := .mem mode) rfl⟩
  · obtain ⟨mode, hmode, hexec, hlen⟩ := exec_trb i hi
    simp only [PastInstr, hlen, hi]
    exact ⟨mode, _, hmode, hexec s, writeTarget_setBitZ_advance (u := .mem mode) rfl⟩

/-! ### Index registers -/

/-- One more than a register, at a width. -/
theorem ofNat_toNat_add_one (w : Width) (reg : Word32) :
    BitVec.ofNat w.bits (reg.toNat + 1) = reg.setWidth w.bits + 1#w.bits := by
  rw [BitVec.ofNat_add, BitVec.ofNat_toNat]

/-- One less than a register, at a width. -/
theorem ofNat_toNat_sub_one (w : Width) (reg : Word32) :
    BitVec.ofNat w.bits (reg.toNat + 2 ^ 32 - 1) = reg.setWidth w.bits - 1#w.bits := by
  rw [ofNat_add_two_pow_sub (width_bits_le w) (by omega), BitVec.ofNat_toNat]

/-- Settles O30: each is the write of X or of Y at `xw` with N and Z. -/
theorem indexIncrementsWrapAtTheirWidth : Obligations.IndexIncrementsWrapAtTheirWidth := by
  intro i s v h
  refine ⟨cell_mem_cellsOf i, ?_⟩
  have hwrite :
      exec i s = .next ((s.putX s.xw (BitVec.ofNat _ v)).advance 1) ∧ ¬ (i = .iny ∨ i = .dey) ∨
      exec i s = .next ((s.putY s.xw (BitVec.ofNat _ v)).advance 1) ∧ ¬ (i = .inx ∨ i = .dex) := by
    obtain ⟨rfl, rfl⟩ | ⟨rfl, rfl⟩ | ⟨rfl, rfl⟩ | ⟨rfl, rfl⟩ := h
    · exact .inl ⟨by rw [ofNat_toNat_add_one]; rfl, by decide⟩
    · exact .inl ⟨by rw [ofNat_toNat_sub_one]; rfl, by decide⟩
    · exact .inr ⟨by rw [ofNat_toNat_add_one]; rfl, by decide⟩
    · exact .inr ⟨by rw [ofNat_toNat_sub_one]; rfl, by decide⟩
  obtain ⟨hexec, hi⟩ | ⟨hexec, hi⟩ := hwrite
  · obtain ⟨hframe, hwritten, hrest⟩ := putX_advance (s := s) rfl
    exact ⟨_, hexec, fun _ => ⟨hframe, hwritten⟩, fun h => absurd h hi, hrest⟩
  · obtain ⟨hframe, hwritten, hrest⟩ := putY_advance (s := s) rfl
    exact ⟨_, hexec, fun h => absurd h hi, fun _ => ⟨hframe, hwritten⟩, hrest⟩

end Sys2Proof.Machine
end

section
/-! PROOFS. ADC and SBC (spec 42_arith_logic.md R211 to R213): in binary mode by the exact sum and
difference, in decimal mode by the digits of packed decimal numbers. -/

namespace Sys2Proof.Machine

open Sys2Proof.Claims

/-! ### Binary mode -/

theorem adc_binary {n : Nat} (draw : Nat) (a m : BitVec n) (c : Bool) :
    adc draw false a m c = addBinary a m c := rfl

theorem sbc_binary {n : Nat} (draw : Nat) (a m : BitVec n) (c : Bool) :
    sbc draw false a m c = subBinary a m c := rfl

/-- Settles O22: with D clear the result is that of the binary add. -/
theorem adcAddsInBinaryMode : Obligations.AdcAddsInBinaryMode := by
  intro i s hi hd
  obtain ⟨src, t, hsrc, hexec, hwritten⟩ := exec_adc_aluWritten hi s
  rw [hd, adc_binary] at hwritten
  rw [← toNat_readA]
  exact ⟨hi ▸ cell_mem_cellsOf i, src, t, hsrc, hexec, hwritten.frame, hwritten.acc,
    hwritten.nzFrom rfl rfl, hwritten.flag_c, hwritten.flag_v.trans (addBinary_v s.mw.bits_pos ..),
    hwritten.flagsKept, hwritten.memoryKept, hwritten.pc⟩

/-- Settles O23: with D clear the result is that of the binary subtract. -/
theorem sbcSubtractsInBinaryMode : Obligations.SbcSubtractsInBinaryMode := by
  intro i s hi hd
  obtain ⟨src, t, hsrc, hexec, hwritten⟩ := exec_sbc_aluWritten hi s
  have hsign : (s.readA s.mw).getLsbD (s.mw.bits - 1) = s.a.getLsbD (s.mw.bits - 1) := by
    rw [State.readA, BitVec.getLsbD_setWidth, decide_eq_true (Nat.sub_one_lt_of_lt s.mw.bits_pos),
      Bool.true_and]
  rw [hd, sbc_binary] at hwritten
  rw [← toNat_readA, ← hsign]
  simp only [← subBinary_value, ← subBinary_c, ← subBinary_v]
  exact ⟨hi ▸ cell_mem_cellsOf i, src, t, hsrc, hexec, hwritten.frame, hwritten.acc,
    hwritten.nzFrom rfl rfl, hwritten.flag_c, hwritten.flag_v,
    hwritten.flagsKept, hwritten.memoryKept, hwritten.pc⟩

/-! ### Packed decimal numbers -/

theorem digit_succ (v j : Nat) : digit v (j + 1) = digit (v / 16) j := by
  rw [digit, digit, Nat.div_div_eq_div_mul, Nat.pow_succ']

/-- The value of a decimal number by its lowest digit. -/
theorem decimalValue_succ (v k : Nat) :
    decimalValue v (k + 1) = v % 16 + 10 * decimalValue (v / 16) k := by
  induction k with
  | zero => simp [decimalValue, digit]
  | succ k ih =>
    rw [decimalValue, ih, digit_succ, decimalValue, Nat.pow_succ]
    ring

/-- All digits are decimal if the lowest one and the others are. -/
theorem allDigits_succ (v k : Nat) : AllDigits v (k + 1) ↔ v % 16 ≤ 9 ∧ AllDigits (v / 16) k := by
  simp only [AllDigits, Nat.forall_lt_succ_left, digit_succ]
  simp [digit]

theorem fromBcd_eq_decimalValue (k v : Nat) : fromBcd k v = decimalValue v k := by
  induction k generalizing v with
  | zero => rfl
  | succ k ih => rw [fromBcd, ih, decimalValue_succ]

theorem validBcd_iff_allDigits (k v : Nat) : validBcd k v = true ↔ AllDigits v k := by
  induction k generalizing v with
  | zero => simp [validBcd, AllDigits]
  | succ k ih => rw [validBcd, Bool.and_eq_true, ih, allDigits_succ, decide_eq_true_iff, Nat.lt_succ_iff]

theorem toBcd_succ_mod (k n : Nat) : toBcd (k + 1) n % 16 = n % 10 := by
  rw [toBcd]
  omega

theorem toBcd_succ_div (k n : Nat) : toBcd (k + 1) n / 16 = toBcd k (n / 10) := by
  rw [toBcd]
  omega

theorem toBcd_lt (k n : Nat) : toBcd k n < 16 ^ k := by
  induction k generalizing n with
  | zero => exact Nat.one_pos
  | succ k ih =>
    have hrest := ih (n / 10)
    rw [toBcd, Nat.pow_succ]
    omega

theorem allDigits_toBcd (k n : Nat) : AllDigits (toBcd k n) k := by
  induction k generalizing n with
  | zero => exact fun j hj => absurd hj (Nat.not_lt_zero j)
  | succ k ih =>
    rw [allDigits_succ, toBcd_succ_mod, toBcd_succ_div]
    exact ⟨Nat.le_of_lt_succ (Nat.mod_lt n (by decide)), ih (n / 10)⟩

/-- The `k` digits of a number stand for it modulo `10^k`. -/
theorem decimalValue_toBcd (k n : Nat) : decimalValue (toBcd k n) k = n % 10 ^ k := by
  induction k generalizing n with
  | zero => exact (Nat.mod_one n).symm
  | succ k ih => rw [decimalValue_succ, toBcd_succ_mod, toBcd_succ_div, ih, Nat.pow_succ', Nat.mod_mul]

/-- The digits of a width fit it. -/
theorem toNat_ofNat_toBcd (w : Width) (n : Nat) :
    (BitVec.ofNat w.bits (toBcd (w.bits / 4) n)).toNat = toBcd (w.bits / 4) n := by
  have hdigits : 16 ^ (w.bits / 4) = 2 ^ w.bits := by cases w <;> rfl
  rw [BitVec.toNat_ofNat, ← hdigits]
  exact Nat.mod_eq_of_lt (toBcd_lt _ n)

/-! ### Decimal mode -/

theorem validOperands_of_allDigits {n : Nat} {a m : BitVec n} (ha : AllDigits a.toNat (n / 4))
    (hm : AllDigits m.toNat (n / 4)) : validOperands a m = true := by
  rw [validOperands, Bool.and_eq_true, validBcd_iff_allDigits, validBcd_iff_allDigits]
  exact ⟨ha, hm⟩

theorem adc_decimal {n : Nat} {draw : Nat} {a m : BitVec n} {c : Bool}
    (ha : AllDigits a.toNat (n / 4)) (hm : AllDigits m.toNat (n / 4)) :
    adc draw true a m c = addDecimal a m c (Config.freeDecimalV draw) :=
  if_pos (validOperands_of_allDigits ha hm)

theorem sbc_decimal {n : Nat} {draw : Nat} {a m : BitVec n} {c : Bool}
    (ha : AllDigits a.toNat (n / 4)) (hm : AllDigits m.toNat (n / 4)) :
    sbc draw true a m c = subDecimal a m c (Config.freeDecimalV draw) :=
  if_pos (validOperands_of_allDigits ha hm)

/-- The result of a decimal add has decimal digits, which stand for the sum modulo `10^k` (R212). -/
theorem addDecimal_digits {w : Width} (a m : BitVec w.bits) (c v : Bool) :
    AllDigits (addDecimal a m c v).value.toNat (w.bits / 4) ∧
      decimalValue (addDecimal a m c v).value.toNat (w.bits / 4) =
        (decimalValue a.toNat (w.bits / 4) + decimalValue m.toNat (w.bits / 4) + c.toNat) %
          10 ^ (w.bits / 4) := by
  simp only [addDecimal, toNat_ofNat_toBcd, decimalValue_toBcd, fromBcd_eq_decimalValue, Nat.mod_mod,
    and_true]
  exact allDigits_toBcd _ _

theorem addDecimal_c {n : Nat} (a m : BitVec n) (c v : Bool) :
    (addDecimal a m c v).c = decide (10 ^ (n / 4) ≤
      decimalValue a.toNat (n / 4) + decimalValue m.toNat (n / 4) + c.toNat) := by
  simp only [addDecimal, fromBcd_eq_decimalValue]

/-- The result of a decimal subtract has decimal digits, which stand for the difference modulo `10^k`
(R212). -/
theorem subDecimal_digits {w : Width} (a m : BitVec w.bits) (c v : Bool) :
    AllDigits (subDecimal a m c v).value.toNat (w.bits / 4) ∧
      (decimalValue (subDecimal a m c v).value.toNat (w.bits / 4) : Int) =
        ((decimalValue a.toNat (w.bits / 4) : Int) - decimalValue m.toNat (w.bits / 4) -
          (1 - c.toNat)) % 10 ^ (w.bits / 4) := by
  simp only [subDecimal, toNat_ofNat_toBcd, decimalValue_toBcd, fromBcd_eq_decimalValue]
  refine ⟨allDigits_toBcd _ _, ?_⟩
  have hpos : (0 : Int) < 10 ^ (w.bits / 4) := by positivity
  rw [Int.natCast_mod, Int.toNat_of_nonneg (Int.emod_nonneg _ hpos.ne')]
  exact_mod_cast Int.emod_emod_of_dvd _ dvd_rfl

theorem subDecimal_c {n : Nat} (a m : BitVec n) (c v : Bool) :
    (subDecimal a m c v).c = decide (0 ≤ (decimalValue a.toNat (n / 4) : Int) -
      decimalValue m.toNat (n / 4) - (1 - c.toNat)) := by
  simp only [subDecimal, fromBcd_eq_decimalValue]

/-- Settles O24: on valid digits the result is that of the decimal add; the frame holds on all digits. -/
theorem adcAddsDecimalDigits : Obligations.AdcAddsDecimalDigits := by
  intro i s hi hd
  obtain ⟨src, t, hsrc, hexec, hwritten⟩ := exec_adc_aluWritten hi s
  refine ⟨src, t, hsrc, hexec, hwritten.frame, hwritten.flagsKept, hwritten.memoryKept, hwritten.pc,
    fun ha hm => ?_⟩
  rw [← toNat_readA] at ha ⊢
  rw [hd, adc_decimal ha hm] at hwritten
  obtain ⟨hvalue, -⟩ := hwritten.acc
  obtain ⟨hdigits, hsum⟩ :=
    addDecimal_digits (s.readA s.mw) (s.sourceValue src s.mw) (s.flag .c) (Config.freeDecimalV s.draw)
  rw [hvalue, ← addDecimal_c]
  exact ⟨hdigits, hsum, hwritten.acc, hwritten.nzFrom rfl rfl, hwritten.flag_c⟩

/-- Settles O25: on valid digits the result is that of the decimal subtract; the frame holds on all
digits. -/
theorem sbcSubtractsDecimalDigits : Obligations.SbcSubtractsDecimalDigits := by
  intro i s hi hd
  obtain ⟨src, t, hsrc, hexec, hwritten⟩ := exec_sbc_aluWritten hi s
  refine ⟨src, t, hsrc, hexec, hwritten.frame, hwritten.flagsKept, hwritten.memoryKept, hwritten.pc,
    fun ha hm => ?_⟩
  rw [← toNat_readA] at ha ⊢
  rw [hd, sbc_decimal ha hm] at hwritten
  obtain ⟨hvalue, -⟩ := hwritten.acc
  obtain ⟨hdigits, hdiff⟩ :=
    subDecimal_digits (s.readA s.mw) (s.sourceValue src s.mw) (s.flag .c) (Config.freeDecimalV s.draw)
  rw [hvalue, ← subDecimal_c]
  exact ⟨hdigits, hdiff, hwritten.acc, hwritten.nzFrom rfl rfl, hwritten.flag_c⟩

end Sys2Proof.Machine
end

section
/-! PROOFS. Branches, jumps, calls and returns (spec 43_control_transfer.md R251 to R268): the pointers
they read as bytes at numbered addresses, and the return address that they push and pull. -/

namespace Sys2Proof.Machine

open Sys2Proof.Claims

/-! ### Branches -/

/-- A conditional branch or BRA is the common form under its condition (R251 to R259, R268). -/
theorem exec_branch {i : Instr} {s : State} {taken : Bool}
    (h : branchTaken s i.mnemonic = some taken) :
    ∃ r8, i.operand = .rel r8 ∧ exec i s = branch taken r8 s := by
  cases i
  case bcc r8 | bcs r8 | beq r8 | bne r8 | bmi r8 | bpl r8 | bvc r8 | bvs r8 | bra r8 =>
    cases h
    exact ⟨r8, rfl, rfl⟩
  all_goals contradiction

/-- A signed number added to a word, modulo 65536. -/
theorem toNat_add_ofInt (pc : Word16) (z : Int) :
    ((pc + BitVec.ofInt 16 z).toNat : Int) = ((pc.toNat : Int) + z) % 65536 := by
  rw [BitVec.toNat_add, BitVec.toNat_ofInt]
  omega

/-- Where a branch goes (R268): the displacement counts from `PCnext`. -/
theorem toNat_branch_pc (pc : Word16) (r8 : Byte) (taken : Bool) :
    ((pc + 2#16 + (if taken then r8.signExtend 16 else 0#16)).toNat : Int) =
      ((pc.toNat : Int) + 2 + (if taken then r8.toInt else 0)) % 65536 := by
  have hdisp : (if taken then r8.signExtend 16 else 0#16) =
      BitVec.ofInt 16 (if taken then r8.toInt else 0) := by
    cases taken <;> rfl
  rw [hdisp, toNat_add_ofInt, BitVec.toNat_add, BitVec.toNat_ofNat]
  omega

/-- Settles O33: every branch is the common form, which writes PC alone. -/
theorem branchesAddTheDisplacementWhenTaken : Obligations.BranchesAddTheDisplacementWhenTaken := by
  intro i s taken htaken
  obtain ⟨r8, hoperand, hexec⟩ := exec_branch htaken
  exact ⟨cell_mem_cellsOf i, r8, _, hoperand, hexec.trans (branch_eq taken r8 s), rfl, fun _ => rfl,
    toNat_branch_pc s.pc r8 taken⟩

/-! ### Pointers of the jumps -/

/-- A two-byte pointer is read from the addresses of its location (R250). -/
theorem ptr16_eq_pointerAt (s : State) (l : Loc) : s.ptr16 l = pointerAt s (l.addr 0) (l.addr 1) := rfl

/-- The pointer of `(a)`, and the low bytes of that of `[a]`, come from Bank 0 and wrap in it
(40_addressing_modes.md R153, R155). -/
theorem ptr16_bank0 (s : State) (a : Word16) :
    s.ptr16 (.bank0 a) = pointerAt s a.toNat ((a.toNat + 1) % 65536) := by
  rw [ptr16_eq_pointerAt, addr_bank0, addr_bank0, Nat.add_zero, Nat.mod_eq_of_lt a.isLt]

/-- The indexed sum wraps in the program bank before the pointer does (R154). -/
theorem addr_tableLoc (s : State) (a : Word16) (k : Nat) :
    (s.tableLoc a).addr k = bankAddr s.pbr (a.toNat + indexOfX s + k) := by
  rw [State.tableLoc, addr_program, bankAddr, bankAddr, BitVec.toNat_add, BitVec.toNat_ofNat, indexX_eq]
  omega

/-- The pointer of `(a,x)` located in `s` and read in `t`, the state after the pushes of a call (R154,
R263). -/
theorem ptr16_tableLoc (s t : State) (a : Word16) :
    t.ptr16 (s.tableLoc a) = pointerAt t (bankAddr s.pbr (a.toNat + indexOfX s))
      (bankAddr s.pbr (a.toNat + indexOfX s + 1)) := by
  rw [ptr16_eq_pointerAt, addr_tableLoc, addr_tableLoc, Nat.add_zero]

/-- A jump through the pointer of `[a]`: PC from its low bytes, PBR from its bank byte (R155, R262). -/
theorem jumpTo24_ptr24_bank0 (s : State) (a : Word16) :
    s.jumpTo24 (s.ptr24 (.bank0 a)) = { s with
      pc := pointerAt s a.toNat ((a.toNat + 1) % 65536)
      pbr := s.readByte ((a.toNat + 2) % 65536) } := by
  rw [State.jumpTo24, State.ptr24, BitVec.extractLsb'_append_eq_left,
    BitVec.extractLsb'_append_eq_right, ptr16_bank0, addr_bank0, State.jumpLong]

/-- Settles O34: each form is one write of PC, or of PBR and PC, from its operand or its pointer. -/
theorem jumpsSetTheProgramCounter : Obligations.JumpsSetTheProgramCounter := by
  intro s a al
  refine ⟨rfl, rfl, ?_, ?_, rfl, ?_⟩
  · rw [← ptr16_bank0]
    rfl
  · rw [← ptr16_tableLoc]
    rfl
  · rw [← jumpTo24_ptr24_bank0]
    rfl

/-! ### Calls -/

/-- Settles O35: a call is the pushes of its return address, after PBR for JSL, and then a jump, which
writes neither S nor memory. -/
theorem callsPushTheAddressOfTheirLastByte : Obligations.CallsPushTheAddressOfTheirLastByte := by
  intro s a al
  refine ⟨⟨_, rfl, by simp [State.jump], pushed_pushN s _ 2 (by decide)⟩, fun hfits => ?_,
    fun hfits => ?_⟩
  · rw [PushWraps, ← pushWraps_iff s 2 (by decide)] at hfits
    exact ⟨_, if_neg hfits, by simp [State.jump], pushed_pushN s _ 2 (by decide),
      ptr16_tableLoc s _ a⟩
  · rw [PushWraps, ← pushWraps_iff s 3 (by decide)] at hfits
    have hpushed := pushed_pushBytes s (s.pbr :: highFirst (s.pc + 3#16).toNat 2) (by simp)
    rw [State.pushBytes, ← pushN_eq_pushBytes] at hpushed
    exact ⟨_, if_neg hfits, by simp [State.jumpTo24, State.jumpLong], hpushed⟩

/-! ### Returns -/

/-- Pulls leave every register but S, which is past the bytes pulled (44_stack_status_system.md R290). -/
theorem pullN_eq_pulledS (s : State) (n : Nat) : s.pullN n = { s with sp := pulledS s n } := by
  rw [← pullN_sp]
  exact pullN_eq s n

/-- Pulls count on from pulls (10_state.md R24, R25). -/
theorem pulledS_pullN (s : State) (n k : Nat) : pulledS (s.pullN n) k = pulledS s (n + k) := by
  induction n generalizing s with
  | zero => rw [State.pullN, Nat.zero_add]
  | succ n ih => rw [State.pullN, ih, pulledS_popped, Nat.add_right_comm]

/-- The byte on the stack after pulls. -/
theorem top_pullN (s : State) (n : Nat) : (s.pullN n).top = s.readByte (pullAddr s n) := by
  rw [top_eq, readByte_pullN, pullAddr, pulledS_pullN, pullAddr]

/-- The return address: the two bytes pulled, plus 1 within the bank (R265, R266). -/
theorem ofNat_pullValue_add_one (s : State) (n : Nat) :
    BitVec.ofNat 16 (s.pullValue n) + 1#16 = BitVec.ofNat 16 (bytesAt s (pullAddr s) n + 1) := by
  rw [pullValue_eq, BitVec.ofNat_add]

theorem exec_rts (s : State) : exec .rts s = .next { s with
    sp := pulledS s 2
    pc := BitVec.ofNat 16 (bytesAt s (pullAddr s) 2 + 1) } := by
  have hexec : exec .rts s =
      .next ((s.pullN 2).jump (BitVec.ofNat 16 (s.pullValue 2) + 1#16)) := rfl
  rw [hexec, ofNat_pullValue_add_one, pullN_eq_pulledS, State.jump]

/-- RTL pulls PBR as a third byte, above the address (R266). -/
theorem exec_rtl {s : State} (hfits : ¬ PullWraps s 3) : exec .rtl s = .next { s with
    sp := pulledS s 3
    pc := BitVec.ofNat 16 (bytesAt s (pullAddr s) 2 + 1)
    pbr := s.readByte (pullAddr s 2) } := by
  rw [PullWraps, ← pullWraps_iff s 3 (by decide)] at hfits
  have hexec : exec .rtl s =
      .next ((s.pullN 3).jumpLong (s.pullN 2).top (BitVec.ofNat 16 (s.pullValue 2) + 1#16)) :=
    if_neg hfits
  rw [hexec, top_pullN, ofNat_pullValue_add_one, pullN_eq_pulledS, State.jumpLong]

/-- Settles O36. -/
theorem returnsPullTheAddressAndAddOne : Obligations.ReturnsPullTheAddressAndAddOne :=
  fun s => ⟨exec_rts s, exec_rtl⟩

end Sys2Proof.Machine
end

section
/-! PROOFS. Pushes (spec 44_stack_status_system.md R290 to R297, R304 to R307): every one is the bytes of
a list pushed and an advance of PC; and the condition of R307, behind which some pushes and pulls are. -/

namespace Sys2Proof.Machine

open Sys2Proof.Claims

/-- The end of every push: the bytes of a list are on the stack, and nothing else but PC has changed
(R290). -/
theorem pushBytes_advance {s t : State} {bytes : List Byte} {len : Nat} (hbytes : bytes.length < 256)
    (ht : t = (s.pushBytes bytes).advance len) :
    t = { s with sp := t.sp, mem := t.mem, pc := s.pc + BitVec.ofNat 16 len } ∧ Pushed s t bytes := by
  subst ht
  refine ⟨?_, pushed_pushBytes s bytes hbytes⟩
  induction bytes generalizing s with
  | nil => rfl
  | cons b bs ih => exact ih (s := s.push8 b) (Nat.lt_of_succ_lt hbytes)

theorem pushN_advance {s t : State} {v n len : Nat} (hn : n < 256)
    (ht : t = (s.pushN v n).advance len) :
    t = { s with sp := t.sp, mem := t.mem, pc := s.pc + BitVec.ofNat 16 len } ∧
      Pushed s t (highFirst v n) :=
  pushBytes_advance (by rwa [length_highFirst]) (by rw [ht, pushN_eq_pushBytes])

/-- The `n` bytes of a number are those of its low bits. -/
theorem highFirst_mod (v n : Nat) : highFirst (v % 256 ^ n) n = highFirst v n := by
  refine List.map_congr_left fun k hk => BitVec.eq_of_toNat_eq ?_
  obtain ⟨m, rfl⟩ := Nat.exists_eq_add_of_lt (List.mem_range.1 hk)
  rw [BitVec.toNat_ofNat, BitVec.toNat_ofNat, show k + m + 1 - 1 - k = m by omega,
    show 256 ^ (k + m + 1) = 256 ^ m * 256 ^ (k + 1) by ring, Nat.mod_mul_right_div_self,
    Nat.pow_succ 256 k, Nat.mul_comm, Nat.mod_mul_right_mod]

/-- A register pushed at a width puts the bytes of the register there, the highest of the width first
(R290). -/
theorem pushN_setWidth (s : State) (reg : Word32) (w : Width) :
    s.pushN (reg.setWidth w.bits).toNat w.bytes = s.pushN reg.toNat w.bytes := by
  rw [pushN_eq_pushBytes, BitVec.toNat_setWidth, Width.two_pow_bits, highFirst_mod,
    ← pushN_eq_pushBytes]

/-- Settles O37: each of the three pushes a register at its width. -/
theorem registerPushesFollowTheWidths : Obligations.RegisterPushesFollowTheWidths := by
  intro i s n v h
  have hpush : ∃ w : Width, n = w.bytes ∧ exec i s = .next ((s.pushN v w.bytes).advance 1) := by
    obtain ⟨rfl, rfl, rfl⟩ | ⟨rfl, rfl, rfl⟩ | ⟨rfl, rfl, rfl⟩ := h
    · exact ⟨s.mw, rfl, by rw [← pushN_setWidth]; rfl⟩
    · exact ⟨s.xw, rfl, by rw [← pushN_setWidth]; rfl⟩
    · exact ⟨s.xw, rfl, by rw [← pushN_setWidth]; rfl⟩
  obtain ⟨w, rfl, hexec⟩ := hpush
  exact ⟨cell_mem_cellsOf i, _, hexec,
    pushN_advance (w.bytes_le.trans_lt (by decide)) rfl⟩

/-- Settles O38: each of the three is one push. -/
theorem bytePushesPushOneByte : Obligations.BytePushesPushOneByte := by
  intro i s v h
  have hexec : exec i s = .next ((s.pushBytes [v]).advance 1) := by
    obtain ⟨rfl, rfl⟩ | ⟨rfl, rfl⟩ | ⟨rfl, rfl⟩ := h <;> rfl
  exact ⟨cell_mem_cellsOf i, _, hexec, pushBytes_advance (by simp) rfl⟩

/-! ### The condition of R307 -/

/-- A push of 16 bits that does not wrap `S[7:0]` in EMU8 takes place (R296, R304 to R307). -/
theorem pushWord_of_not_pushWraps {s : State} (hfits : ¬ PushWraps s 2) (v : Word16) (len : Nat) :
    pushWord v len s = .next ((s.pushN v.toNat 2).advance len) := by
  rw [PushWraps, ← pushWraps_iff s 2 (by decide)] at hfits
  exact if_neg hfits

/-- Where PEI has its pointer (R157, R305): in Bank 0, in every mode. -/
theorem toNat_ptr16_directLocFlat (s : State) (d8 : Byte) :
    (s.ptr16 (s.directLocFlat d8)).toNat =
      bytesAt s (fun k => (s.d.toNat + d8.toNat + k) % 65536) 2 := by
  rw [toNat_ptr16, funext (addr_directLocFlat s d8)]

/-- What PER pushes (R306). -/
theorem toNat_add_three_add (pc disp : Word16) :
    (pc + 3#16 + disp).toNat = (pc.toNat + 3 + disp.toNat) % 65536 := by
  rw [BitVec.toNat_add, BitVec.toNat_add, BitVec.toNat_ofNat]
  omega

/-- Settles O39: each of the four is the push of a word. -/
theorem wordPushesPushSixteenBits : Obligations.WordPushesPushSixteenBits := by
  intro i s v a d8 h hfits
  have hpush : ∃ word : Word16, v = word.toNat ∧ exec i s = pushWord word (i.length s.widths) s := by
    obtain ⟨rfl, rfl⟩ | ⟨rfl, rfl⟩ | ⟨rfl, rfl⟩ | ⟨rfl, rfl⟩ := h
    · exact ⟨s.d, rfl, rfl⟩
    · exact ⟨a, rfl, rfl⟩
    · exact ⟨_, (toNat_ptr16_directLocFlat s d8).symm, rfl⟩
    · exact ⟨_, (toNat_add_three_add s.pc a).symm, rfl⟩
  obtain ⟨word, rfl, hexec⟩ := hpush
  obtain ⟨hframe, hpushed⟩ := pushN_advance (s := s) (v := word.toNat) (n := 2)
    (len := i.length s.widths) (by decide) rfl
  exact ⟨cell_mem_cellsOf i, _, hexec.trans (pushWord_of_not_pushWraps hfits word _), hframe ▸ rfl,
    hpushed, congrArg State.pc hframe⟩

/-- Behind the condition of R307 an instruction is refused where the condition holds. -/
theorem ite_refused_eq_refused_iff {c : Prop} [Decidable c] {r : Refusal} {t : State} :
    (if c then .refused r else .next t : Result) = .refused r ↔ c := by
  split <;> simp [*]

/-- The pushes that R307 names are behind its condition. -/
theorem exec_of_wrapPushes {i : Instr} {n : Nat} (h : wrapPushes i = some n) (s : State) :
    n < 256 ∧ ∃ t, exec i s = if s.pushWraps n then .refused .stackPageWrap else .next t := by
  cases i
  case pea | pei | per | phd | jsrAbsIndX | jsl =>
    cases h
    exact ⟨by decide, _, rfl⟩
  all_goals contradiction

/-- The pulls that R307 names are behind its condition. -/
theorem exec_of_wrapPulls {i : Instr} {n : Nat} (h : wrapPulls i = some n) (s : State) :
    n < 256 ∧ ∃ t, exec i s = if s.pullWraps n then .refused .stackPageWrap else .next t := by
  cases i
  case plb | pld | rtl =>
    cases h
    exact ⟨by decide, _, rfl⟩
  all_goals contradiction

/-- Settles O40: the condition of R307 is that of the statement. -/
theorem wrappingStackInstructionsAreRefused : Obligations.WrappingStackInstructionsAreRefused := by
  intro i s n
  refine ⟨fun h => ?_, fun h => ?_⟩
  · obtain ⟨hn, t, hexec⟩ := exec_of_wrapPushes h s
    rw [hexec, ite_refused_eq_refused_iff]
    exact pushWraps_iff s n hn
  · obtain ⟨hn, t, hexec⟩ := exec_of_wrapPulls h s
    rw [hexec, ite_refused_eq_refused_iff]
    exact pullWraps_iff s n hn

end Sys2Proof.Machine
end

section
/-! PROOFS. Pulls (spec 44_stack_status_system.md R290, R298 to R303): a register, DBR, D or P is written
in the state past the bytes pulled. -/

namespace Sys2Proof.Machine

open Sys2Proof.Claims

/-- A single pull, with S where the statements put it (10_state.md R24, R25). -/
theorem popped_eq_pulledS (s : State) : s.popped = { s with sp := pulledS s 1 } := pullN_eq_pulledS s 1

theorem exec_pla (s : State) : exec .pla s = .next ((State.putA { s with sp := pulledS s s.mw.bytes } s.mw
    (BitVec.ofNat _ (bytesAt s (pullAddr s) s.mw.bytes))).advance 1) := by
  rw [← pullN_eq_pulledS, ← pullValue_eq]
  rfl

theorem exec_plx (s : State) : exec .plx s = .next ((State.putX { s with sp := pulledS s s.xw.bytes } s.xw
    (BitVec.ofNat _ (bytesAt s (pullAddr s) s.xw.bytes))).advance 1) := by
  rw [← pullN_eq_pulledS, ← pullValue_eq]
  rfl

theorem exec_ply (s : State) : exec .ply s = .next ((State.putY { s with sp := pulledS s s.xw.bytes } s.xw
    (BitVec.ofNat _ (bytesAt s (pullAddr s) s.xw.bytes))).advance 1) := by
  rw [← pullN_eq_pulledS, ← pullValue_eq]
  rfl

/-- Settles O41: each of the three is the write of its register in the state past the pulls. -/
theorem registerPullsFollowTheWidths : Obligations.RegisterPullsFollowTheWidths := by
  intro s
  refine ⟨⟨_, exec_pla s, by simp [State.advance], by simp, ?_⟩,
    ⟨_, exec_plx s, by simp [State.advance], by simp, ?_⟩,
    ⟨_, exec_ply s, by simp [State.advance], by simp, ?_⟩⟩
  · obtain ⟨-, hwritten, hnz, hflags, hmem, -⟩ :=
      writeA_setNZ_advance (s := { s with sp := pulledS s s.mw.bytes }) rfl
    exact ⟨hwritten, hnz, hflags, hmem⟩
  · obtain ⟨-, hwritten, hnz, hflags, hmem, -⟩ :=
      putX_advance (s := { s with sp := pulledS s s.xw.bytes }) rfl
    exact ⟨hwritten, hnz, hflags, hmem⟩
  · obtain ⟨-, hwritten, hnz, hflags, hmem, -⟩ :=
      putY_advance (s := { s with sp := pulledS s s.xw.bytes }) rfl
    exact ⟨hwritten, hnz, hflags, hmem⟩

/-- `setP(v)` writes P as the statements say (R317). -/
theorem statusWritten_setP (s : State) (v : Byte) : StatusWritten s (s.setP v) v := by
  obtain ⟨hX, hY⟩ := setP_index s v
  refine ⟨setP_flag s v, fun hx => ?_, fun hx => ?_⟩
  · rw [hX, hY, if_pos hx, if_pos hx, toNat_zeroUpper, toNat_zeroUpper]
    exact ⟨rfl, rfl⟩
  · rw [hX, hY, hx]
    exact ⟨rfl, rfl⟩

theorem exec_plp (s : State) : exec .plp s = .next
    ((State.setP { s with sp := pulledS s 1 } (s.readByte (pullAddr s 0))).advance 1) := by
  rw [← popped_eq_pulledS, ← top_eq]
  rfl

theorem exec_plb {s : State} (hfits : ¬ PullWraps s 1) : exec .plb s = .next
    ((State.setNZ { s with dbr := s.readByte (pullAddr s 0), sp := pulledS s 1 }
      (s.readByte (pullAddr s 0))).advance 1) := by
  rw [PullWraps, ← pullWraps_iff s 1 (by decide)] at hfits
  have hexec : exec .plb s =
      .next ((State.setNZ { s.popped with dbr := s.top } s.top).advance 1) := if_neg hfits
  rw [hexec, top_eq, popped_eq_pulledS]

theorem exec_pld {s : State} (hfits : ¬ PullWraps s 2) : exec .pld s = .next
    ((State.setNZ { s with d := BitVec.ofNat 16 (bytesAt s (pullAddr s) 2), sp := pulledS s 2 }
      (BitVec.ofNat 16 (bytesAt s (pullAddr s) 2))).advance 1) := by
  rw [PullWraps, ← pullWraps_iff s 2 (by decide)] at hfits
  have hexec : exec .pld s =
      .next ((State.setNZ { s.pullN 2 with d := BitVec.ofNat 16 (s.pullValue 2) }
        (BitVec.ofNat 16 (s.pullValue 2))).advance 1) := if_neg hfits
  rw [hexec, pullValue_eq, pullN_eq_pulledS]

/-- Settles O42: PLP is `setP`, and PLB and PLD take N and Z from what they write. -/
theorem pullsOfStatusBankAndDirectRegister : Obligations.PullsOfStatusBankAndDirectRegister := by
  intro s
  refine ⟨⟨_, exec_plp s, rfl, statusWritten_setP { s with sp := pulledS s 1 } _, fun _ => rfl⟩,
    fun hfits => ⟨_, exec_plb hfits, rfl, ?_⟩, fun hfits => ⟨_, exec_pld hfits, rfl, ?_⟩⟩
  · obtain ⟨hnz, hflags, hmem, -⟩ := setNZ_advance (s := s) (len := 1)
      (u := { s with dbr := s.readByte (pullAddr s 0), sp := pulledS s 1 })
      (v := s.readByte (pullAddr s 0)) rfl rfl rfl rfl
    exact ⟨hnz, hflags, hmem⟩
  · obtain ⟨hnz, hflags, hmem, -⟩ := setNZ_advance (s := s) (len := 1)
      (u := { s with d := BitVec.ofNat 16 (bytesAt s (pullAddr s) 2), sp := pulledS s 2 })
      (v := BitVec.ofNat 16 (bytesAt s (pullAddr s) 2)) rfl rfl rfl rfl
    exact ⟨hnz, hflags, hmem⟩

end Sys2Proof.Machine
end

section
/-! PROOFS. The flag instructions, REP, SEP and the mode switch (spec 44_stack_status_system.md R308 to
R319, 10_state.md R39). -/

namespace Sys2Proof.Machine

open Sys2Proof.Claims

/-- The write of one flag and of no other. -/
theorem flagsKept_setFlag (s : State) (f : Flag) (b : Bool) : FlagsKept s (s.setFlag f b) [f] := by
  intro g hg
  rw [flag_setFlag, if_neg (by simpa using hg)]

/-- Settles O43: each of the seven is the write of one flag. -/
theorem flagInstructionsWriteOneFlag : Obligations.FlagInstructionsWriteOneFlag := by
  intro i s f b h
  have hexec : exec i s = .next ((s.setFlag f b).advance 1) := by
    simp only [List.mem_cons, Prod.mk.injEq, List.not_mem_nil, or_false] at h
    obtain ⟨rfl, rfl, rfl⟩ | ⟨rfl, rfl, rfl⟩ | ⟨rfl, rfl, rfl⟩ | ⟨rfl, rfl, rfl⟩ | ⟨rfl, rfl, rfl⟩ |
      ⟨rfl, rfl, rfl⟩ | ⟨rfl, rfl, rfl⟩ := h <;> rfl
  exact ⟨cell_mem_cellsOf i, _, hexec, rfl, by simp, flagsKept_setFlag s f b, fun _ => rfl⟩

/-- Settles O44: both are `setP` with the masked P. -/
theorem repAndSepWriteTheMaskedFlags : Obligations.RepAndSepWriteTheMaskedFlags := by
  intro i s m8 v h
  have hexec : exec i s = .next ((s.setP v).advance 2) := by
    obtain ⟨rfl, rfl⟩ | ⟨rfl, rfl⟩ := h <;> rfl
  exact ⟨cell_mem_cellsOf i, _, hexec, rfl, statusWritten_setP s v, fun _ => rfl⟩

/-! ### The mode switch -/

/-- The effects of R39 on `s`, in the mode of `t`: EMU8 forces M, X, the upper bytes of the index registers
and the high byte of S, and any other mode leaves them. -/
def ModeEntered (s t : State) : Prop :=
  if t.e16 = true ∧ t.e8 = true then
    t.flag .m = true ∧ t.flag .x = true ∧ t.x.toNat = s.x.toNat % 256 ∧
      t.y.toNat = s.y.toNat % 256 ∧ t.sp.toNat = 0x100 + s.sp.toNat % 256
  else
    t.flag .m = s.flag .m ∧ t.flag .x = s.flag .x ∧ t.x = s.x ∧ t.y = s.y ∧ t.sp = s.sp

theorem modeEntered_enterMode (s : State) : ModeEntered s s.enterMode := by
  have hemu8 : s.enterMode.e16 = true ∧ s.enterMode.e8 = true ↔ s.emu8 = true := by simp [State.emu8]
  rw [ModeEntered]
  simp only [hemu8]
  split
  · next hemu =>
    rw [enterMode_emu8 hemu]
    refine ⟨?_, withFlag_bit _ .x .x true, toNat_zeroUpper s.x, toNat_zeroUpper s.y, ?_⟩
    · exact (withFlag_bit _ .x .m true).trans (withFlag_bit _ .m .m true)
    · exact (toNat_append16 _ _).trans (by rw [BitVec.toNat_setWidth]; rfl)
  · next hemu =>
    rw [enterMode_other (Bool.eq_false_iff.2 hemu)]
    exact ⟨rfl, rfl, rfl, rfl, rfl⟩

theorem flagsKept_enterMode (s : State) : FlagsKept s s.enterMode [.m, .x] := by
  intro f hf
  simp only [List.mem_cons, List.not_mem_nil, or_false, not_or] at hf
  obtain ⟨hm, hx⟩ := hf
  cases hemu : s.emu8 with
  | true =>
    rw [enterMode_emu8 hemu, State.flag, withFlag_bit, withFlag_bit, if_neg hx, if_neg hm, State.flag]
  | false => rw [enterMode_other hemu]

theorem flagsKept_trans {s t u : State} {fs gs : List Flag} (hst : FlagsKept s t fs)
    (htu : FlagsKept t u gs) : FlagsKept s u (fs ++ gs) := by
  intro f hf
  rw [List.mem_append, not_or] at hf
  obtain ⟨hfs, hgs⟩ := hf
  exact (htu f hgs).trans (hst f hfs)

/-- The state of XCE and XFE between the exchange of the flags and the effects of R39: E8 is the old C, and
E16 and P are those given. -/
def State.exchanged (s : State) (e16 : Bool) (p : Byte) : State :=
  { s with e8 := s.flag .c, e16 := e16, p := p }

/-- R318. -/
theorem exec_xce (s : State) :
    exec .xce s = .next ((s.exchanged s.e16 (withFlag s.p .c s.e8)).enterMode.advance 1) := rfl

/-- R319. -/
theorem exec_xfe (s : State) : exec .xfe s =
    .next ((s.exchanged (s.flag .v) (withFlag (withFlag s.p .c s.e8) .v s.e16)).enterMode.advance 1) := rfl

/-- What XCE and XFE have in common once the flags have been exchanged: the effects of R39, and no flag but
C, V, M and X is another. -/
theorem enterMode_exchanged {s t : State} {e16 : Bool} {p : Byte}
    (hflags : FlagsKept s (s.exchanged e16 p) [.c, .v])
    (ht : t = (s.exchanged e16 p).enterMode.advance 1) :
    t = { s with
      e8 := s.flag .c, e16 := t.e16, p := t.p, x := t.x, y := t.y, sp := t.sp, pc := s.pc + 1#16 } ∧
      t.e16 = e16 ∧ t.flag .c = p.getLsbD Flag.c.pos ∧ t.flag .v = p.getLsbD Flag.v.pos ∧
      FlagsKept s t [.c, .v, .m, .x] ∧ MemoryKept s t ∧ ModeEntered s t := by
  subst ht
  have hkept := flagsKept_enterMode (s.exchanged e16 p)
  refine ⟨?_, enterMode_e16 _, hkept .c (by decide), hkept .v (by decide),
    flagsKept_trans hflags hkept, readByte_congr (enterMode_mem _), ?_⟩
  · rw [enterMode_eq]
    rfl
  · rw [ModeEntered, ← hflags .m (by decide), ← hflags .x (by decide)]
    exact modeEntered_enterMode (s.exchanged e16 p)

/-- Settles O45: the flags are exchanged, and then the mode they select is entered. -/
theorem modeExchangesSwapFlagsAndForceEmu8 : Obligations.ModeExchangesSwapFlagsAndForceEmu8 := by
  intro i s h
  refine ⟨cell_mem_cellsOf i, ?_⟩
  have hflagC := flagsKept_setFlag s .c s.e8
  obtain rfl | rfl := h
  · have hflags : FlagsKept s (s.setFlag .c s.e8) [.c, .v] :=
      fun f hf => hflagC f fun hc => hf (List.mem_cons.2 (.inl (List.mem_singleton.1 hc)))
    obtain ⟨hframe, he16, hc, hv, hkept, hmem, hmode⟩ := enterMode_exchanged (e16 := s.e16) hflags rfl
    exact ⟨_, exec_xce s, hframe, hc.trans (withFlag_bit s.p .c .c s.e8),
      fun _ => ⟨he16, hv.trans (withFlag_bit s.p .c .v s.e8)⟩, nofun, hkept, hmem,
      hmode⟩
  · have hflags := flagsKept_trans hflagC (flagsKept_setFlag _ .v s.e16)
    obtain ⟨hframe, he16, hc, hv, hkept, hmem, hmode⟩ := enterMode_exchanged (e16 := s.flag .v) hflags rfl
    have hcarry := (withFlag_bit (withFlag s.p .c s.e8) .v .c s.e16).trans (withFlag_bit s.p .c .c s.e8)
    exact ⟨_, exec_xfe s, hframe, hc.trans hcarry, nofun,
      fun _ => ⟨he16, hv.trans (withFlag_bit _ .v .v s.e16)⟩, hkept, hmem,
      hmode⟩

end Sys2Proof.Machine
end

section
/-! PROOFS. The interrupt sequence and RTI (spec 44_stack_status_system.md R320 to R322, 60_exceptions.md
R348 to R354, R356), and WAI, STP, NOP and WDM (R323 to R326). -/

namespace Sys2Proof.Machine

open Sys2Proof.Claims

/-! ### The interrupt sequence -/

/-- In EMU8 bit 4 of the pushed status is the Break flag (R350, 10_state.md R34). -/
theorem framedStatus_emu8 {s : State} (hemu : s.emu8 = true) (k : Interrupt) :
    s.framedStatus k = if k = .brk ∨ k = .cop then s.p ||| 0x10#8 else s.p &&& 0xEF#8 := by
  rw [State.framedStatus, if_pos hemu, withFlag]
  simp only [decide_eq_true_eq]
  rfl

/-- The frame of the mode, byte by byte (R351 to R353). -/
theorem map_byte_frame (s : State) (k : Interrupt) (ret : Word16) :
    (Config.frame s.mode).map (FrameItem.byte s.pbr ret (s.framedStatus k)) = frameBytes s k ret := by
  cases hemu : s.emu8 with
  | true =>
    rw [frame_emu8 hemu, frameBytes, if_pos hemu, framedStatus_emu8 hemu]
    rfl
  | false =>
    have hstatus : s.framedStatus k = s.p := by simp [State.framedStatus, hemu]
    rw [frame_other hemu, frameBytes, hemu, hstatus]
    rfl

/-- The table of vectors (R348). -/
theorem toNat_vector (s : State) (k : Interrupt) :
    (Config.vector k s.mode).toNat = vectorOffset s k := by
  unfold State.mode vectorOffset
  cases s.e16 <;> cases s.e8 <;> cases k <;> rfl

/-- A vector does not wrap in Bank 0. -/
theorem vectorOffset_lt (s : State) (k : Interrupt) : vectorOffset s k + 1 < 65536 := by
  unfold vectorOffset
  cases s.e16 <;> cases s.e8 <;> cases k <;> decide

/-- The pointer at a vector, read in any state (R348, R350). -/
theorem ptr16_vector (s t : State) (k : Interrupt) :
    t.ptr16 (.bank0 (Config.vector k s.mode)) =
      pointerAt t (vectorOffset s k) (vectorOffset s k + 1) := by
  rw [ptr16_bank0, toNat_vector, Nat.mod_eq_of_lt (vectorOffset_lt s k)]

/-- TAKING AN INTERRUPT is the sequence of R350, from every source and in every mode. -/
theorem interruptTaken_takeInterrupt (s : State) (k : Interrupt) (ret : Word16) :
    InterruptTaken s (s.takeInterrupt k ret) k ret := by
  obtain ⟨-, -, hpc, -⟩ := takeInterrupt_registers s k ret
  refine ⟨?_, ?_, by simp [flag_takeInterrupt], by simp [flag_takeInterrupt], fun f hf => ?_, ?_⟩
  · simp [State.takeInterrupt]
  · rw [← map_byte_frame]
    exact pushed_takeInterrupt s k ret
  · simp only [List.mem_cons, List.not_mem_nil, or_false, not_or] at hf
    obtain ⟨hi, hd⟩ := hf
    rw [flag_takeInterrupt, if_neg hd, if_neg hi]
  · exact hpc.trans (ptr16_vector s _ k)

/-- Settles O46: both are the interrupt sequence with the address two past the opcode. -/
theorem brkAndCopTakeTheirInterrupt : Obligations.BrkAndCopTakeTheirInterrupt := fun s _ =>
  ⟨⟨_, rfl, interruptTaken_takeInterrupt s .brk _⟩, ⟨_, rfl, interruptTaken_takeInterrupt s .cop _⟩⟩

/-! ### RTI -/

theorem pullItem_bank (s : State) : s.pullItem .bank =
    { s with sp := pulledS s 1, pbr := s.readByte (pullAddr s 0) } := by
  rw [State.pullItem, top_eq, popped_eq_pulledS]

theorem pullItem_pcHigh (s : State) : s.pullItem .pcHigh =
    { s with sp := pulledS s 1, pc := s.readByte (pullAddr s 0) ++ s.pc.setWidth 8 } := by
  rw [State.pullItem, top_eq, popped_eq_pulledS]

theorem pullItem_pcLow (s : State) : s.pullItem .pcLow =
    { s with sp := pulledS s 1, pc := s.pc.extractLsb' 8 8 ++ s.readByte (pullAddr s 0) } := by
  rw [State.pullItem, top_eq, popped_eq_pulledS]

theorem pullItem_status (s : State) : s.pullItem .status =
    { s.setP (s.readByte (pullAddr s 0)) with sp := pulledS s 1 } := by
  rw [State.pullItem, top_eq, popped_eq_pulledS]
  rfl

/-- The three bytes that RTI pulls in every mode: P through `setP`, then PC, low byte first (R322). -/
theorem pullItem_status_pc (s : State) : ((s.pullItem .status).pullItem .pcLow).pullItem .pcHigh =
    { s.setP (s.readByte (pullAddr s 0)) with
      sp := pulledS s 3, pc := pointerAt s (pullAddr s 1) (pullAddr s 2) } := by
  rw [pullItem_pcHigh]
  simp only [pulledS_pullItem, pullAddr_pullItem, readByte_pullItem]
  rw [pullItem_pcLow]
  simp only [pullAddr_pullItem, readByte_pullItem, pc_of_bytes]
  rw [pullItem_status]
  rfl

/-- Outside EMU8 RTI pulls PBR as a fourth byte (R322). -/
theorem exec_rti (s : State) : exec .rti s = .next
    { s.setP (s.readByte (pullAddr s 0)) with
      sp := pulledS s (if s.emu8 then 3 else 4)
      pc := pointerAt s (pullAddr s 1) (pullAddr s 2)
      pbr := if s.emu8 then s.pbr else s.readByte (pullAddr s 3) } := by
  have hexec : exec .rti s = .next (s.pullFrame (Config.frame s.mode).reverse) := rfl
  rw [hexec]
  cases hemu : s.emu8 with
  | true =>
    rw [frame_emu8 hemu]
    exact congrArg _ (pullItem_status_pc s)
  | false =>
    rw [frame_other hemu]
    refine congrArg _ ((pullItem_bank _).trans ?_)
    simp only [pulledS_pullItem, pullAddr_pullItem, readByte_pullItem]
    rw [pullItem_status_pc]
    rfl

/-- Settles O47. -/
theorem rtiPullsTheFrameOfItsMode : Obligations.RtiPullsTheFrameOfItsMode := fun s =>
  ⟨_, exec_rti s, rfl, statusWritten_setP s _, fun _ => rfl⟩

/-! ### WAI, STP, NOP and WDM -/

/-- Settles O49: each is the advance of PC, after the write of its latch for WAI and STP. -/
theorem waitStopAndNoOperations : Obligations.WaitStopAndNoOperations :=
  fun _ _ => ⟨rfl, rfl, rfl, rfl⟩

end Sys2Proof.Machine
end

section
/-! PROOFS. One step of MVN and MVP (spec 44_stack_status_system.md R327, R328, 40_addressing_modes.md
R156). -/

namespace Sys2Proof.Machine

open Sys2Proof.Claims

/-- MVN and MVP add 1 or -1 to X and Y (R327, R328). -/
def moveDelta (down : Bool) : Word16 := if down then 0xFFFF#16 else 1#16

theorem exec_blockMove {i : Instr} {dst src : Byte} {down : Bool}
    (h : i = .mvn dst src ∧ down = false ∨ i = .mvp dst src ∧ down = true) (s : State) :
    exec i s = blockMove (moveDelta down) dst src s := by
  obtain ⟨rfl, rfl⟩ | ⟨rfl, rfl⟩ := h <;> rfl

/-- The offsets of a block move have 8 bits if `xw = 8` and else 16 (R327). -/
theorem moveWidth_bits (s : State) : s.moveWidth.bits = if s.xw = .w8 then 8 else 16 := by
  rw [State.moveWidth]
  split <;> rfl

theorem moveWidth_bits_eq (s : State) : s.moveWidth.bits = 8 ∨ s.moveWidth.bits = 16 := by
  rw [moveWidth_bits]
  split <;> decide

/-! ### The index registers and the count -/

/-- A register that holds one more or one less than before at the width of the offsets, in numbers. -/
theorem toNat_of_add_moveDelta {s : State} {old new : Word32} {down : Bool}
    (h : new.setWidth s.moveWidth.bits = old.setWidth _ + (moveDelta down).setWidth _) :
    new.toNat % 2 ^ s.moveWidth.bits =
      (old.toNat + if down then 2 ^ 32 - 1 else 1) % 2 ^ s.moveWidth.bits := by
  rw [← BitVec.toNat_setWidth, h, BitVec.toNat_add, BitVec.toNat_setWidth, BitVec.toNat_setWidth,
    ← Nat.add_mod]
  cases down with
  | false => rfl
  | true =>
    change (old.toNat + 65535) % _ = (old.toNat + 4294967295) % _
    obtain hk | hk := moveWidth_bits_eq s <;> rw [hk] <;> omega

/-- A written at 16 bits holds the number written in its low 16 bits (10_state.md R41). -/
theorem toNat_a_writeA_w16 (s : State) (v : Word16) : (s.writeA .w16 v).a.toNat % 65536 = v.toNat := by
  obtain ⟨hvalue, -⟩ := writeA_spec s .w16 v
  exact (BitVec.toNat_setWidth 16 _).symm.trans (congrArg BitVec.toNat hvalue)

/-- The count after a step, `A[15:0] - 1`. -/
theorem toNat_setWidth16_sub_one (a : Word32) :
    (a.setWidth 16 - 1#16 : Word16).toNat = (a.toNat + 65535) % 65536 := by
  rw [BitVec.toNat_sub, BitVec.toNat_setWidth, BitVec.toNat_ofNat]
  omega

/-! ### The byte moved -/

/-- An offset in a bank is an address of the address space (20_memory.md R72). -/
theorem bank_offset_lt (s : State) (bank : Byte) (v : Nat) :
    bank.toNat * 65536 + v % 2 ^ s.moveWidth.bits < Config.addrSpace := by
  have hbank := bank.isLt
  have hoffset : v % 2 ^ s.moveWidth.bits < 65536 := by
    obtain hk | hk := moveWidth_bits_eq s <;> rw [hk] <;> omega
  change _ < 16777216
  omega

/-- Memory with one byte written, at an address of the address space. -/
theorem readByte_of_mem_eq_write {s t : State} {a : Nat} {v : Byte} (ha : a < Config.addrSpace)
    (h : t.mem = s.mem.write (a % Config.addrSpace) v) (b : Nat) :
    t.readByte b = if b % Config.addrSpace = a then v else s.readByte b := by
  have hwrite := readByte_writeByte s a b v
  rw [Nat.mod_eq_of_lt ha] at hwrite
  exact (readByte_congr (s := s.writeByte a v) h b).trans hwrite

/-- Settles O50: `blockMove_eq`, in numbers. -/
theorem blockMovesMoveOneByteAStep : Obligations.BlockMovesMoveOneByteAStep := by
  intro i s dst src down h
  obtain ⟨t, ht, hframe, hmem, hx, hy, ha, hpc⟩ := blockMove_eq (moveDelta down) dst src s
  obtain ⟨hxvalue, hxhigh⟩ := hx ▸ writeX_spec s s.moveWidth _
  obtain ⟨hyvalue, hyhigh⟩ := hy ▸ writeY_spec s s.moveWidth _
  have hcount : t.a.toNat % 65536 = (s.a.setWidth 16 - 1#16 : Word16).toNat := by
    rw [ha, toNat_a_writeA_w16]
  have hdest := bank_offset_lt s dst s.y.toNat
  rw [State.readX, State.readY, BitVec.toNat_setWidth, BitVec.toNat_setWidth] at hmem
  refine ⟨cell_mem_cellsOf i, t, (exec_blockMove h s).trans ht, ?_⟩
  simp only [← moveWidth_bits]
  refine ⟨hframe, ?_, fun a hout => ?_, toNat_of_add_moveDelta hxvalue, toNat_of_add_moveDelta hyvalue,
    fun hw => ⟨hxhigh (if_pos hw), hyhigh (if_pos hw)⟩, ?_, ?_⟩
  · rw [readByte_of_mem_eq_write hdest hmem, if_pos (Nat.mod_eq_of_lt hdest)]
  · rw [readByte_of_mem_eq_write hdest hmem, if_neg (hout 0 Nat.zero_lt_one)]
  · rw [hcount, toNat_setWidth16_sub_one]
  · rw [hcount, hpc]
    exact if_congr BitVec.toNat_inj.symm rfl rfl

end Sys2Proof.Machine
end

section
/-! PROOFS. RTI straight after an interrupt sequence (spec 60_exceptions.md R350, R356): pulls step back
over the pushes, so that each byte of the frame comes back into the register it was pushed from. -/

namespace Sys2Proof.Machine

open Sys2Proof.Claims

/-! ### Pulls after pushes -/

/-- A word is its two bytes. -/
theorem byteOf_append_byteOf (v : Word16) : (byteOf v 1 ++ byteOf v 0 : Word16) = v :=
  BitVec.extractLsb'_append_extractLsb' (w := 8) (len := 8)

/-- In EMU8 S stays in page 1, whether anything is pushed or not (10_state.md R25). -/
theorem pushedS_emu8 {s : State} (hemu : s.emu8 = true) (hforced : s.Emu8Forced) (k : Nat) :
    pushedS s k = 0x01#8 ++ (s.sp.setWidth 8 - BitVec.ofNat 8 k) := by
  obtain ⟨-, -, hpage⟩ := hforced hemu
  rw [pushedS, if_pos hemu]
  split
  · next hk =>
    rw [hk, BitVec.sub_zero, ← hpage, BitVec.setWidth_eq_extractLsb' (by decide)]
    exact (byteOf_append_byteOf s.sp).symm
  · rfl

theorem pushedS_other {s : State} (hemu : s.emu8 = false) (k : Nat) :
    pushedS s k = s.sp - BitVec.ofNat 16 k := by
  rw [pushedS, hemu]
  split
  · next hk => rw [hk, BitVec.sub_zero]
  · rfl

/-- Pulls undo pushes, the last one first: after `n` pushes, `k` pulls leave S as `n - k` pushes would. -/
theorem pulledS_of_sp_eq_pushedS {s t : State} {n k : Nat} (hforced : s.Emu8Forced)
    (hemu : t.emu8 = s.emu8) (hsp : t.sp = pushedS s n) (hk : k ≤ n) :
    pulledS t k = pushedS s (n - k) := by
  rw [pulledS, hemu, hsp]
  split
  · next hk => rw [hk, Nat.sub_zero]
  · cases h : s.emu8 with
    | true =>
      rw [pushedS_emu8 h hforced, pushedS_emu8 h hforced, setWidth_page1, if_pos rfl]
      congr 1
      refine BitVec.eq_of_toNat_eq ?_
      simp only [BitVec.toNat_add, BitVec.toNat_sub, BitVec.toNat_ofNat]
      omega
    | false =>
      rw [pushedS_other h, pushedS_other h, if_neg Bool.false_ne_true]
      refine BitVec.eq_of_toNat_eq ?_
      simp only [BitVec.toNat_add, BitVec.toNat_sub, BitVec.toNat_ofNat]
      omega

/-- Pulls after pushes read the bytes pushed, the last one first. -/
theorem readByte_pullAddr_of_pushed {s t : State} {bytes : List Byte} {k : Nat} {v : Byte}
    (hforced : s.Emu8Forced) (hemu : t.emu8 = s.emu8) (h : Pushed s t bytes)
    (hv : bytes.reverse[k]? = some v) : t.readByte (pullAddr t k) = v := by
  obtain ⟨hsp, hread, -⟩ := h
  obtain ⟨hk, rfl⟩ := List.getElem?_eq_some_iff.1 hv
  rw [List.length_reverse] at hk
  have hlast : bytes.length - (k + 1) = bytes.length - 1 - k := by omega
  rw [pullAddr, pulledS_of_sp_eq_pushedS hforced hemu hsp hk, hlast, List.getElem_reverse]
  exact hread _ (by omega)

/-! ### What RTI pulls -/

/-- The registers that RTI pulls from the stack of `t` are the status of a frame of `s`, a return address,
S as it was in `s` and, outside EMU8, the bank of `s` (R356). -/
def FrameReadBack (s t : State) (k : Interrupt) (ret : Word16) : Prop :=
  pulledS t (if s.emu8 then 3 else 4) = s.sp ∧
    t.readByte (pullAddr t 0) = s.framedStatus k ∧
    pointerAt t (pullAddr t 1) (pullAddr t 2) = ret ∧
    (s.emu8 = false → t.readByte (pullAddr t 3) = s.pbr)

theorem length_frame (s : State) : (Config.frame s.mode).length = if s.emu8 then 3 else 4 := by
  cases hemu : s.emu8 with
  | true =>
    rw [frame_emu8 hemu]
    rfl
  | false =>
    rw [frame_other hemu]
    rfl

/-- RTI pulls the items of the frame in the reverse order of their pushes (R322, R356). -/
theorem readByte_pullAddr_takeInterrupt {s : State} (hforced : s.Emu8Forced) (k : Interrupt)
    (ret : Word16) {j : Nat} {item : FrameItem} (h : (Config.frame s.mode).reverse[j]? = some item) :
    (s.takeInterrupt k ret).readByte (pullAddr (s.takeInterrupt k ret) j) =
      FrameItem.byte s.pbr ret (s.framedStatus k) item := by
  refine readByte_pullAddr_of_pushed hforced (emu8_takeInterrupt s k ret)
    (pushed_takeInterrupt s k ret) ?_
  rw [← List.map_reverse, List.getElem?_map, h, Option.map_some]

/-- The frame that an interrupt sequence pushes is the frame that RTI pulls (R350 to R353, R356). -/
theorem frameReadBack_takeInterrupt {s : State} (hforced : s.Emu8Forced) (k : Interrupt) (ret : Word16) :
    FrameReadBack s (s.takeInterrupt k ret) k ret := by
  have hpulled {j : Nat} {item : FrameItem} :=
    readByte_pullAddr_takeInterrupt hforced k ret (j := j) (item := item)
  obtain ⟨hsp, -⟩ := pushed_takeInterrupt s k ret
  have hstatus : (Config.frame s.mode).reverse[0]? = some .status := by cases s.mode <;> rfl
  have hlow : (Config.frame s.mode).reverse[1]? = some .pcLow := by cases s.mode <;> rfl
  have hhigh : (Config.frame s.mode).reverse[2]? = some .pcHigh := by cases s.mode <;> rfl
  refine ⟨?_, hpulled hstatus, ?_, fun hemu => ?_⟩
  · rw [List.length_map, length_frame] at hsp
    rw [pulledS_of_sp_eq_pushedS hforced (emu8_takeInterrupt s k ret) hsp le_rfl, Nat.sub_self,
      pushedS_zero]
  · rw [pointerAt, hpulled hlow, hpulled hhigh]
    exact byteOf_append_byteOf ret
  · have hbank : (Config.frame s.mode).reverse[3]? = some .bank := by rw [frame_other hemu]; rfl
    exact hpulled hbank

/-- The framed status differs from P in bit 4 alone, and in EMU8 alone (R350). -/
theorem framedStatus_bit (s : State) (k : Interrupt) (f : Flag) (h : s.emu8 = true → f ≠ .x) :
    (s.framedStatus k).getLsbD f.pos = s.flag f := by
  rw [State.framedStatus]
  split
  · next hemu => rw [withFlag_bit, if_neg (h hemu), State.flag]
  · rfl

/-- `setP` of the framed status gives P back: in EMU8 it forces the bit that the frame may have changed,
which the invariant says was 1 (R317, R356). -/
theorem flag_setP_framedStatus {s t : State} (hforced : s.Emu8Forced) (hemu : t.emu8 = s.emu8)
    (k : Interrupt) (f : Flag) : (t.setP (s.framedStatus k)).flag f = s.flag f := by
  rw [setP_flag, hemu]
  split
  · next hmx =>
    obtain ⟨h8, hf⟩ := hmx
    obtain ⟨hm, hx, -⟩ := hforced h8
    rcases hf with rfl | rfl
    · exact hm.symm
    · exact hx.symm
  · next hmx => exact framedStatus_bit s k f fun h8 hf => hmx ⟨h8, .inr hf⟩

/-- An index register of a state that meets the invariant is not changed where X = 1 clears its upper
bytes (10_state.md R23). -/
theorem ite_zeroUpper_eq {b : Bool} {v : Word32} (h : b = true → v.extractLsb' 8 24 = 0#24) :
    (if b then zeroUpper v else v) = v := by
  split
  · next hb => exact zeroUpper_of_high (h hb)
  · rfl

/-- `setP` of the framed status gives back P, and leaves X and Y alone. -/
theorem setP_framedStatus {s t : State} (h : s.Inv) (hemu : t.emu8 = s.emu8) (hX : t.x = s.x)
    (hY : t.y = s.y) (k : Interrupt) :
    (t.setP (s.framedStatus k)).p = s.p ∧ (t.setP (s.framedStatus k)).x = s.x ∧
      (t.setP (s.framedStatus k)).y = s.y := by
  obtain ⟨hforced, hindex, -⟩ := h
  have hflag := flag_setP_framedStatus hforced hemu k
  obtain ⟨hx, hy⟩ := setP_index t (s.framedStatus k)
  rw [hflag, hX] at hx
  rw [hflag, hY] at hy
  exact ⟨status_ext hflag, hx.trans (ite_zeroUpper_eq fun hb => (hindex hb).1),
    hy.trans (ite_zeroUpper_eq fun hb => (hindex hb).2)⟩

/-- Settles O48: RTI writes P through `setP` and S, PC and PBR from the frame, which is read back. -/
theorem rtiUndoesAnInterrupt : Obligations.RtiUndoesAnInterrupt := by
  rintro s t u k ret h rfl hexec
  obtain ⟨hforced, -⟩ := id h
  obtain ⟨hsp, hstatus, hpc, hpbr⟩ := frameReadBack_takeInterrupt hforced k ret
  obtain ⟨hp, hx, hy⟩ :=
    setP_framedStatus (t := s.takeInterrupt k ret) h (by simp) (by simp) (by simp) k
  rw [exec_rti, emu8_takeInterrupt, hstatus, hpc, hsp] at hexec
  cases hexec
  refine ⟨hp, rfl, hx, hy, by simp, by simp, by simp, rfl, by simp, by simp, fun hemu => ?_⟩
  exact (if_neg (by simp [hemu])).trans (hpbr hemu)

end Sys2Proof.Machine
end

section
/-! PROOFS. The input pins (spec 60_exceptions.md R342 to R347, R362, R366, R367, 70_reset_and_hazards.md
R390): which interrupt is due, what a sample does to the state a step left, and the steps of a processor
that waits, is stopped, is interrupted, aborted or reset. -/

namespace Sys2Proof.Machine

open Sys2Proof.Claims

/-! ### The sample at the end of a step -/

theorem latchPins_of_no_reset {pin : PinSample} (hres : pin.resLow = false) (s : State) :
    s.latchPins pin = { s with
      irqLow := pin.irqLow
      nmiPending := s.nmiPending || pin.nmiEdge
      abortPending := s.abortPending || decide (pin.abort ≠ .none) } := by
  simp [State.latchPins, hres]

theorem sample_cons {s : State} {pin : PinSample} {rest : List PinSample}
    (h : s.inputs = pin :: rest) : s.sample = State.latchPins { s with inputs := rest } pin := by
  rw [State.sample, h]

theorem sampleAfter_cons (s : State) {t : State} {pin : PinSample} {rest : List PinSample}
    (h : t.inputs = pin :: rest) : s.sampleAfter t =
      State.latchPins { s.abortEffect t pin.abort with inputs := rest } pin := by
  rw [State.sampleAfter, h]

/-- RES- resets a stopped processor as it resets any other (R342, R367). -/
theorem sampleStopped_of_reset {s : State} {pin : PinSample} {rest : List PinSample}
    (h : s.inputs = pin :: rest) (hres : pin.resLow = true) :
    s.sampleStopped = State.latchPins { s with inputs := rest } pin := by
  simp only [State.sampleStopped, h, State.latchPins, hres, if_true]
  rfl

/-- Settles O53: the sample that heads the list is latched, with the rest of the list left. -/
theorem samplesLatchTheInputs : Obligations.SamplesLatchTheInputs := fun _ _ _ hinputs hres =>
  (sample_cons hinputs).trans (latchPins_of_no_reset hres _)

/-! ### The boundary -/

/-- The interrupt that the boundary takes is the one of the priority order (R346, R347). -/
theorem interruptDue_of_due {s : State} {k : Interrupt} (h : Due s k) :
    s.interruptDue = some k := by
  rcases h with ⟨rfl, habort⟩ | ⟨rfl, habort, hnmi⟩ | ⟨rfl, habort, hnmi, hlow, hi⟩
  · simp [State.interruptDue, habort]
  · simp [State.interruptDue, habort, hnmi]
  · simp [State.interruptDue, habort, hnmi, hlow, hi]

theorem step_of_stopped {s : State} (h : s.stopped = true) : step s = .next s.sampleStopped :=
  if_pos h

theorem step_of_interruptDue {s : State} {k : Interrupt} (hstopped : s.stopped = false)
    (hdue : s.interruptDue = some k) : step s = .next (s.takeInterrupt k s.pc).sample := by
  simp [step, hstopped, hdue]

theorem step_of_due {s : State} {k : Interrupt} (hstopped : s.stopped = false) (h : Due s k) :
    step s = .next (s.takeInterrupt k s.pc).sample :=
  step_of_interruptDue hstopped (interruptDue_of_due h)

/-- A wait goes on where no interrupt is due (R366). -/
theorem step_of_waiting {s : State} (hstopped : s.stopped = false) (hwaiting : s.waiting = true)
    (hdue : s.interruptDue = none) : step s = .next s.waitTick.sample := by
  simp [step, hstopped, hwaiting, hdue]

theorem step_of_running {s : State} (hstopped : s.stopped = false) (hwaiting : s.waiting = false)
    (hdue : s.interruptDue = none) : step s = s.runInstruction := by
  simp [step, hstopped, hwaiting, hdue]

/-- Settles O51: the interrupt that is due is taken by the sequence of R350. -/
theorem boundaryTakesInterruptsByPriority : Obligations.BoundaryTakesInterruptsByPriority :=
  fun s k hstopped hdue =>
    ⟨_, step_of_due hstopped hdue, interruptTaken_takeInterrupt s k s.pc⟩

/-- Settles O52: a tick of the wait, and the samples of a stopped processor. -/
theorem waitingAndStoppedExecuteNothing : Obligations.WaitingAndStoppedExecuteNothing := by
  intro s
  refine ⟨fun hstopped hwaiting habort hnmi hirq => ?_, fun hstopped hinputs => ?_,
    fun pin rest hstopped hinputs hres => ?_⟩
  · exact step_of_waiting hstopped hwaiting (interruptDue_eq_none habort hnmi hirq)
  · rw [step_of_stopped hstopped, State.sampleStopped, hinputs]
  · simp [step_of_stopped hstopped, State.sampleStopped, hinputs, hres]

/-! ### ABORT- -/

/-- A step that fetches and answers a next state has executed the instruction (00_scope.md R7). -/
theorem exec_of_step {s u : State} (hfetches : Fetches s) (h : step s = .next u) :
    ∃ v, exec s.fetchInstr s.latched = .next v ∧ u = s.latched.sampleAfter v := by
  rw [step_eq_runInstruction hfetches] at h
  cases hexec : exec s.fetchInstr s.latched with
  | next v =>
    rw [runInstruction_of_next hexec] at h
    exact ⟨v, rfl, (Host.Outcome.next.inj h).symm⟩
  | fault f => cases f
  | refused r =>
    rw [runInstruction_of_refused hexec] at h
    cases h

/-- An instruction that ABORT- hit modifies nothing but memory, and that only if its writes land (R345,
R362). -/
theorem abortEffect_of_abort (before after : State) {abort : AbortPulse} (h : abort ≠ .none) :
    before.abortEffect after abort =
      { before with mem := if abort = .writesBlocked then before.mem else after.mem } := by
  cases abort with
  | none => exact absurd rfl h
  | writesBlocked => rfl
  | writesLand => rfl

/-- Memory after an instruction, whether ABORT- hit it or not (R362). -/
theorem mem_abortEffect (before after : State) (abort : AbortPulse) :
    (before.abortEffect after abort).mem =
      if abort = .writesBlocked then before.mem else after.mem := by
  cases abort <;> rfl

/-- Settles O54: the state is that of before the instruction but for memory, with the ABORT- latch set, so
that the next boundary takes ABORT- at the PC of the aborted opcode. -/
theorem abortedInstructionModifiesNoRegister : Obligations.AbortedInstructionModifiesNoRegister := by
  intro s u pin rest hfetches hinputs habort hres hstep
  obtain ⟨v, hexec, hu⟩ := exec_of_step hfetches hstep
  obtain ⟨hstopped, -, hnone, hnmi, -⟩ := hfetches
  have hv : v.inputs = pin :: rest := by rw [exec_inputs hexec, latched_inputs, hinputs]
  rw [sampleAfter_cons _ hv, latchPins_of_no_reset hres, abortEffect_of_abort _ _ habort] at hu
  have hmem : u.mem = if pin.abort = .writesBlocked then s.mem else v.mem := by rw [hu]; rfl
  have hframe : u = { s with
      ir := u.ir, draw := u.draw, mem := u.mem, inputs := rest, irqLow := pin.irqLow
      nmiPending := pin.nmiEdge, abortPending := true } := by
    rw [hu]
    simp [State.latched, hnone, hnmi, habort]
  have hpc : u.pc = s.pc := by rw [hframe]
  have hpending : u.abortPending = true := by rw [hframe]
  have hrunning : u.stopped = false := by rw [hframe, hstopped]
  refine ⟨hframe, fun hblocked => hmem.trans (if_pos hblocked), ⟨v, hexec, fun hland => ?_⟩,
    u.takeInterrupt .abort s.pc, ?_, interruptTaken_takeInterrupt u .abort s.pc⟩
  · rw [hmem, hland, if_neg (by decide)]
  · rw [← hpc]
    exact step_of_due hrunning (.inl ⟨rfl, hpending⟩)

/-! ### RES- -/

/-- The reset sequence gives every value of the reset table (10_state.md R47, 70_reset_and_hazards.md
R392). -/
theorem resetDone_resetSequence (s : State) : ResetDone s.resetSequence s.resetSequence := by
  obtain ⟨hm, hx, hd, hi⟩ := resetStatus_bits (Config.freeResetNVZC s.draw)
  exact ⟨rfl, rfl, rfl, extract_page1 _, setWidth_byte_high _, setWidth_byte_high _, hm, hx, hd, hi,
    rfl, rfl, rfl, rfl, rfl, rfl, rfl⟩

/-- A sample with RES- low resets the state the step left, and keeps the samples to come (R342, log 17). -/
theorem latchPins_of_reset {pin : PinSample} (hres : pin.resLow = true) (s : State) :
    ResetDone (s.latchPins pin) (s.latchPins pin) ∧ (s.latchPins pin).inputs = s.inputs := by
  rw [State.latchPins, hres]
  exact ⟨resetDone_resetSequence _, rfl⟩

/-- A step whose sample shows RES- low latches that sample in a state that holds the samples after it. -/
theorem step_eq_latchPins {s t : State} {pin : PinSample} {rest : List PinSample}
    (hinputs : s.inputs = pin :: rest) (hres : pin.resLow = true) (hstep : step s = .next t) :
    ∃ u : State, u.inputs = rest ∧ t = u.latchPins pin := by
  rcases step_cases hstep with ⟨-, rfl⟩ | ⟨k, -, -, rfl⟩ | ⟨-, -, -, rfl⟩ | ⟨-, -, -, v, hexec, rfl⟩
  · exact ⟨_, rfl, sampleStopped_of_reset hinputs hres⟩
  · exact ⟨_, rfl, sample_cons ((takeInterrupt_inputs s k s.pc).trans hinputs)⟩
  · exact ⟨_, rfl, sample_cons hinputs⟩
  · exact ⟨_, rfl, sampleAfter_cons _ ((exec_inputs hexec).trans hinputs)⟩

/-- Settles O8: whatever the step did, its sample ends it in the reset state, and memory is what each of
the four ways of a step leaves. -/
theorem resetInputInitialisesTheMachine : Obligations.ResetInputInitialisesTheMachine := by
  intro s t pin rest hinputs hres hstep
  have hnext {u : State} (hu : step s = .next u) : t = u :=
    Host.Outcome.next.inj (hstep.symm.trans hu)
  obtain ⟨u, hrest, ht⟩ := step_eq_latchPins hinputs hres hstep
  obtain ⟨hreset, hkept⟩ := latchPins_of_reset hres u
  refine ⟨ht ▸ hreset, by rw [ht, hkept, hrest], fun hstopped => ?_, fun k hstopped hdue => ?_,
    fun hfetches hwaiting => ?_, fun hfetches => ?_⟩
  · rw [hnext (step_of_stopped hstopped), mem_sampleStopped]
  · refine ⟨_, interruptTaken_takeInterrupt s k s.pc, ?_⟩
    rw [hnext (step_of_due hstopped hdue), mem_sample]
  · obtain ⟨hstopped, -, habort, hnmi, hirq⟩ := hfetches
    rw [hnext (step_of_waiting hstopped hwaiting (interruptDue_eq_none habort hnmi hirq)), mem_sample]
    rfl
  · obtain ⟨v, hexec, hv⟩ := exec_of_step hfetches hstep
    refine ⟨v, hexec, ?_⟩
    rw [hv, sampleAfter_cons _ ((exec_inputs hexec).trans hinputs), mem_latchPins]
    exact mem_abortEffect s.latched v pin.abort

end Sys2Proof.Machine
end

section
/-! PROOFS. The one way the machine stops (spec 60_exceptions.md R340, 44_stack_status_system.md R307):
every meaning answers a next state but for those behind the condition of R307. -/

namespace Sys2Proof.Machine

open Sys2Proof.Claims

/-- One of the pushes or pulls for which R307 names the instruction wraps `S[7:0]`. -/
def StackPageWraps (i : Instr) (s : State) : Prop :=
  ∃ n, wrapPushes i = some n ∧ PushWraps s n ∨ wrapPulls i = some n ∧ PullWraps s n

/-- A result is a next state, or the refusal of R307 where its condition holds. -/
def StopsAtWrapAlone (i : Instr) (s : State) (r : Result) : Prop :=
  (∃ t, r = .next t) ∨ r = .refused .stackPageWrap ∧ StackPageWraps i s

/-- A meaning that R307 does not name answers a next state. -/
theorem Runs.exists_next {i : Instr} {s : State} {r : Result} (h : Runs s i r)
    (hpushes : wrapPushes i = none) (hpulls : wrapPulls i = none) : ∃ t, r = .next t := by
  cases h
  case pea | pei | per | phd | jsrAbsIndX | jsl => cases hpushes
  case plb | pld | rtl => cases hpulls
  all_goals exact ⟨_, rfl⟩

/-- A result behind the condition of R307, where the condition is what the statements say it is. -/
theorem stopsAtWrapAlone_ite {i : Instr} {s t : State} {c : Bool} (h : c = true → StackPageWraps i s) :
    StopsAtWrapAlone i s (if c then .refused .stackPageWrap else .next t) := by
  cases c with
  | true => exact .inr ⟨rfl, h rfl⟩
  | false => exact .inl ⟨t, rfl⟩

theorem exec_stopsAtWrapAlone (i : Instr) (s : State) : StopsAtWrapAlone i s (exec i s) := by
  cases hpushes : wrapPushes i with
  | some n =>
    obtain ⟨hn, t, hexec⟩ := exec_of_wrapPushes hpushes s
    rw [hexec]
    exact stopsAtWrapAlone_ite fun h => ⟨n, .inl ⟨hpushes, (pushWraps_iff s n hn).1 h⟩⟩
  | none =>
    cases hpulls : wrapPulls i with
    | some n =>
      obtain ⟨hn, t, hexec⟩ := exec_of_wrapPulls hpulls s
      rw [hexec]
      exact stopsAtWrapAlone_ite fun h => ⟨n, .inr ⟨hpulls, (pullWraps_iff s n hn).1 h⟩⟩
    | none => exact .inl ((runs s i).exists_next hpushes hpulls)

/-- One instruction from memory stops where its execution does: the latch of the opcode moves neither S nor
the mode, and the sample after it always answers a state. -/
theorem runInstruction_stopsAtWrapAlone (s : State) :
    StopsAtWrapAlone s.fetchInstr s s.runInstruction := by
  rcases exec_stopsAtWrapAlone s.fetchInstr s.latched with ⟨t, ht⟩ | ⟨hrefused, hwraps⟩
  · exact .inl ⟨_, runInstruction_of_next ht⟩
  · exact .inr ⟨runInstruction_of_refused hrefused, hwraps⟩

/-- A step that runs no instruction answers a next state, and one that runs one stops where that does
(60_exceptions.md R340, R346). -/
theorem step_stopsAtWrapAlone (s : State) : StopsAtWrapAlone s.fetchInstr s (step s) := by
  cases hstopped : s.stopped with
  | true => exact .inl ⟨_, step_of_stopped hstopped⟩
  | false =>
    cases hdue : s.interruptDue with
    | some k => exact .inl ⟨_, step_of_interruptDue hstopped hdue⟩
    | none =>
      cases hwaiting : s.waiting with
      | true => exact .inl ⟨_, step_of_waiting hstopped hwaiting hdue⟩
      | false =>
        rw [step_of_running hstopped hwaiting hdue]
        exact runInstruction_stopsAtWrapAlone s

/-- Settles O57: no meaning faults, and a step stops where the instruction it fetches does. -/
theorem onlyStackPageWrapStopsTheMachine : Obligations.OnlyStackPageWrapStopsTheMachine :=
  ⟨exec_stopsAtWrapAlone, step_stopsAtWrapAlone⟩

end Sys2Proof.Machine
end
